-- ==== Sys2Proof/Word.lean ====
section
/-! DEFINITION. The two word sizes of the core (00_scope.md R6, R7): bytes and 16-bit words. -/

namespace Sys2Proof

/-- An 8-bit value: a register half, a memory byte, an instruction byte (R6, R7). -/
abbrev Byte := BitVec 8

/-- A 16-bit value: PC, SP, IX, IY, a register pair, an address (R6, R81). -/
abbrev Word := BitVec 16

end Sys2Proof
end

