-- ==== Sys2Proof/Syntax.lean ====
section
/-! DEFINITION. The instructions: one constructor per row of spec/opcode_table.json, and the operand names the
encoding fields select. A constructor's docstring gives the table's mnemonic, its format and the rule of its
meaning. -/

namespace Sys2Proof

/-- An 8-bit register selected by a 3-bit field (10_state.md R35). The field value 110 is no register. -/
inductive Reg8 where
  | b | c | d | e | h | l | a
  deriving DecidableEq, Repr

/-- The pair selected by the 2-bit fields `ss` and `dd` (10_state.md R36). -/
inductive Pair where
  | bc | de | hl | sp
  deriving DecidableEq, Repr

/-- The pair selected by the 2-bit field `qq` of PUSH and POP (10_state.md R37). -/
inductive PairQ where
  | bc | de | hl | af
  deriving DecidableEq, Repr

/-- The pair selected by the fields `pp` (ADD IX) and `rr` (ADD IY): the value 10 selects the index
register of the prefix byte (10_state.md R36; 41_alu16.md R253, R254). -/
inductive PairX where
  | bc | de | xy | sp
  deriving DecidableEq, Repr

/-- The index register a DD (IX) or FD (IY) prefix byte selects (30_encoding.md R130). -/
inductive IndexReg where
  | ix | iy
  deriving DecidableEq, Repr

/-- The eight condition codes (30_encoding.md R124). -/
inductive Cond where
  | nz | z | nc | c | po | pe | p | m
  deriving DecidableEq, Repr

/-- The four conditions of JR (30_encoding.md R125). -/
inductive JrCond where
  | nz | z | nc | c
  deriving DecidableEq, Repr

/-- The instruction formats (30_encoding.md R111). -/
inductive Format where
  | u1 | u2n | u2e | u3nn | cb2 | ed2 | ed4 | x2 | x3d | x4dn | x4nn | xcb4
  deriving DecidableEq, Repr

/-- The 200 instruction forms of the opcode table. `n`, `nn`, `d`, `e`, `b`, `t` are the operand fields of
30_encoding.md R117 as they are encoded: `d` and `e` are the raw displacement bytes, `t` is the restart field
(target `t * 8`). -/
inductive Instr where
  -- 8-bit arithmetic and logic (40_alu8.md)
  /-- `ADD A,r`: format U1, R201. -/
  | addAR (r : Reg8)
  /-- `ADD A,n`: format U2n, R201. -/
  | addAN (n : Byte)
  /-- `ADD A,(HL)`: format U1, R201. -/
  | addAHl
  /-- `ADD A,(IX+d)`: format X3d, R201. -/
  | addAIxd (d : Byte)
  /-- `ADD A,(IY+d)`: format X3d, R201. -/
  | addAIyd (d : Byte)
  /-- `ADC A,r`: format U1, R202. -/
  | adcAR (r : Reg8)
  /-- `ADC A,n`: format U2n, R202. -/
  | adcAN (n : Byte)
  /-- `ADC A,(HL)`: format U1, R202. -/
  | adcAHl
  /-- `ADC A,(IX+d)`: format X3d, R202. -/
  | adcAIxd (d : Byte)
  /-- `ADC A,(IY+d)`: format X3d, R202. -/
  | adcAIyd (d : Byte)
  /-- `SUB r`: format U1, R203. -/
  | subR (r : Reg8)
  /-- `SUB n`: format U2n, R203. -/
  | subN (n : Byte)
  /-- `SUB (HL)`: format U1, R203. -/
  | subHl
  /-- `SUB (IX+d)`: format X3d, R203. -/
  | subIxd (d : Byte)
  /-- `SUB (IY+d)`: format X3d, R203. -/
  | subIyd (d : Byte)
  /-- `SBC A,r`: format U1, R204. -/
  | sbcAR (r : Reg8)
  /-- `SBC A,n`: format U2n, R204. -/
  | sbcAN (n : Byte)
  /-- `SBC A,(HL)`: format U1, R204. -/
  | sbcAHl
  /-- `SBC A,(IX+d)`: format X3d, R204. -/
  | sbcAIxd (d : Byte)
  /-- `SBC A,(IY+d)`: format X3d, R204. -/
  | sbcAIyd (d : Byte)
  /-- `AND r`: format U1, R205. -/
  | andR (r : Reg8)
  /-- `AND n`: format U2n, R205. -/
  | andN (n : Byte)
  /-- `AND (HL)`: format U1, R205. -/
  | andHl
  /-- `AND (IX+d)`: format X3d, R205. -/
  | andIxd (d : Byte)
  /-- `AND (IY+d)`: format X3d, R205. -/
  | andIyd (d : Byte)
  /-- `XOR r`: format U1, R206. -/
  | xorR (r : Reg8)
  /-- `XOR n`: format U2n, R206. -/
  | xorN (n : Byte)
  /-- `XOR (HL)`: format U1, R206. -/
  | xorHl
  /-- `XOR (IX+d)`: format X3d, R206. -/
  | xorIxd (d : Byte)
  /-- `XOR (IY+d)`: format X3d, R206. -/
  | xorIyd (d : Byte)
  /-- `OR r`: format U1, R207. -/
  | orR (r : Reg8)
  /-- `OR n`: format U2n, R207. -/
  | orN (n : Byte)
  /-- `OR (HL)`: format U1, R207. -/
  | orHl
  /-- `OR (IX+d)`: format X3d, R207. -/
  | orIxd (d : Byte)
  /-- `OR (IY+d)`: format X3d, R207. -/
  | orIyd (d : Byte)
  /-- `CP r`: format U1, R208. -/
  | cpR (r : Reg8)
  /-- `CP n`: format U2n, R208. -/
  | cpN (n : Byte)
  /-- `CP (HL)`: format U1, R208. -/
  | cpHl
  /-- `CP (IX+d)`: format X3d, R208. -/
  | cpIxd (d : Byte)
  /-- `CP (IY+d)`: format X3d, R208. -/
  | cpIyd (d : Byte)
  /-- `INC r`: format U1, R210. -/
  | incR (r : Reg8)
  /-- `INC (HL)`: format U1, R210. -/
  | incHl
  /-- `INC (IX+d)`: format X3d, R210. -/
  | incIxd (d : Byte)
  /-- `INC (IY+d)`: format X3d, R210. -/
  | incIyd (d : Byte)
  /-- `DEC r`: format U1, R211. -/
  | decR (r : Reg8)
  /-- `DEC (HL)`: format U1, R211. -/
  | decHl
  /-- `DEC (IX+d)`: format X3d, R211. -/
  | decIxd (d : Byte)
  /-- `DEC (IY+d)`: format X3d, R211. -/
  | decIyd (d : Byte)
  /-- `DAA`: format U1, R220. -/
  | daa
  /-- `CPL`: format U1, R221. -/
  | cpl
  /-- `CCF`: format U1, R223. -/
  | ccf
  /-- `SCF`: format U1, R224. -/
  | scf
  /-- `NEG`: format ED2, R222. -/
  | neg
  -- 16-bit arithmetic (41_alu16.md)
  /-- `ADD HL,ss`: format U1, R250. -/
  | addHlSs (ss : Pair)
  /-- `ADC HL,ss`: format ED2, R251. -/
  | adcHlSs (ss : Pair)
  /-- `SBC HL,ss`: format ED2, R252. -/
  | sbcHlSs (ss : Pair)
  /-- `ADD IX,pp`: format X2, R253. -/
  | addIxPp (pp : PairX)
  /-- `ADD IY,rr`: format X2, R254. -/
  | addIyRr (rr : PairX)
  /-- `INC ss`: format U1, R255. -/
  | incSs (ss : Pair)
  /-- `DEC ss`: format U1, R256. -/
  | decSs (ss : Pair)
  /-- `INC IX`: format X2, R257. -/
  | incIx
  /-- `DEC IX`: format X2, R258. -/
  | decIx
  /-- `INC IY`: format X2, R257. -/
  | incIy
  /-- `DEC IY`: format X2, R258. -/
  | decIy
  -- Rotate and shift (42_rotate_shift.md)
  /-- `RLCA`: format U1, R280. -/
  | rlca
  /-- `RRCA`: format U1, R281. -/
  | rrca
  /-- `RLA`: format U1, R282. -/
  | rla
  /-- `RRA`: format U1, R283. -/
  | rra
  /-- `RLC r`: format CB2, R286. -/
  | rlcR (r : Reg8)
  /-- `RLC (HL)`: format CB2, R286. -/
  | rlcHl
  /-- `RLC (IX+d)`: format XCB4, R286. -/
  | rlcIxd (d : Byte)
  /-- `RLC (IY+d)`: format XCB4, R286. -/
  | rlcIyd (d : Byte)
  /-- `RRC r`: format CB2, R287. -/
  | rrcR (r : Reg8)
  /-- `RRC (HL)`: format CB2, R287. -/
  | rrcHl
  /-- `RRC (IX+d)`: format XCB4, R287. -/
  | rrcIxd (d : Byte)
  /-- `RRC (IY+d)`: format XCB4, R287. -/
  | rrcIyd (d : Byte)
  /-- `RL r`: format CB2, R288. -/
  | rlR (r : Reg8)
  /-- `RL (HL)`: format CB2, R288. -/
  | rlHl
  /-- `RL (IX+d)`: format XCB4, R288. -/
  | rlIxd (d : Byte)
  /-- `RL (IY+d)`: format XCB4, R288. -/
  | rlIyd (d : Byte)
  /-- `RR r`: format CB2, R289. -/
  | rrR (r : Reg8)
  /-- `RR (HL)`: format CB2, R289. -/
  | rrHl
  /-- `RR (IX+d)`: format XCB4, R289. -/
  | rrIxd (d : Byte)
  /-- `RR (IY+d)`: format XCB4, R289. -/
  | rrIyd (d : Byte)
  /-- `SLA r`: format CB2, R290. -/
  | slaR (r : Reg8)
  /-- `SLA (HL)`: format CB2, R290. -/
  | slaHl
  /-- `SLA (IX+d)`: format XCB4, R290. -/
  | slaIxd (d : Byte)
  /-- `SLA (IY+d)`: format XCB4, R290. -/
  | slaIyd (d : Byte)
  /-- `SRA r`: format CB2, R291. -/
  | sraR (r : Reg8)
  /-- `SRA (HL)`: format CB2, R291. -/
  | sraHl
  /-- `SRA (IX+d)`: format XCB4, R291. -/
  | sraIxd (d : Byte)
  /-- `SRA (IY+d)`: format XCB4, R291. -/
  | sraIyd (d : Byte)
  /-- `SRL r`: format CB2, R292. -/
  | srlR (r : Reg8)
  /-- `SRL (HL)`: format CB2, R292. -/
  | srlHl
  /-- `SRL (IX+d)`: format XCB4, R292. -/
  | srlIxd (d : Byte)
  /-- `SRL (IY+d)`: format XCB4, R292. -/
  | srlIyd (d : Byte)
  /-- `RLD`: format ED2, R295. -/
  | rld
  /-- `RRD`: format ED2, R296. -/
  | rrd
  -- Bit test, set and reset (43_bit.md)
  /-- `BIT b,r`: format CB2, R310. -/
  | bitR (b : BitVec 3) (r : Reg8)
  /-- `BIT b,(HL)`: format CB2, R311. -/
  | bitHl (b : BitVec 3)
  /-- `BIT b,(IX+d)`: format XCB4, R312. -/
  | bitIxd (b : BitVec 3) (d : Byte)
  /-- `BIT b,(IY+d)`: format XCB4, R312. -/
  | bitIyd (b : BitVec 3) (d : Byte)
  /-- `RES b,r`: format CB2, R320. -/
  | resR (b : BitVec 3) (r : Reg8)
  /-- `RES b,(HL)`: format CB2, R321. -/
  | resHl (b : BitVec 3)
  /-- `RES b,(IX+d)`: format XCB4, R322. -/
  | resIxd (b : BitVec 3) (d : Byte)
  /-- `RES b,(IY+d)`: format XCB4, R322. -/
  | resIyd (b : BitVec 3) (d : Byte)
  /-- `SET b,r`: format CB2, R315. -/
  | setR (b : BitVec 3) (r : Reg8)
  /-- `SET b,(HL)`: format CB2, R316. -/
  | setHl (b : BitVec 3)
  /-- `SET b,(IX+d)`: format XCB4, R317. -/
  | setIxd (b : BitVec 3) (d : Byte)
  /-- `SET b,(IY+d)`: format XCB4, R317. -/
  | setIyd (b : BitVec 3) (d : Byte)
  -- Exchange, block transfer and block search (44_exchange_block.md)
  /-- `EX DE,HL`: format U1, R330. -/
  | exDeHl
  /-- `EXX`: format U1, R331. -/
  | exx
  /-- `EX AF,AF'`: format U1, R332. -/
  | exAfAf
  /-- `EX (SP),HL`: format U1, R333. -/
  | exSpHl
  /-- `EX (SP),IX`: format X2, R334. -/
  | exSpIx
  /-- `EX (SP),IY`: format X2, R334. -/
  | exSpIy
  /-- `LDI`: format ED2, R336. -/
  | ldi
  /-- `LDD`: format ED2, R337. -/
  | ldd
  /-- `LDIR`: format ED2, R338. -/
  | ldir
  /-- `LDDR`: format ED2, R339. -/
  | lddr
  /-- `CPI`: format ED2, R343. -/
  | cpi
  /-- `CPD`: format ED2, R344. -/
  | cpd
  /-- `CPIR`: format ED2, R345. -/
  | cpir
  /-- `CPDR`: format ED2, R346. -/
  | cpdr
  -- Loads, stores and the stack (45_load.md)
  /-- `LD r,r'`: format U1, R360. -/
  | ldRR (r : Reg8) (r' : Reg8)
  /-- `LD r,n`: format U2n, R361. -/
  | ldRN (r : Reg8) (n : Byte)
  /-- `LD r,(HL)`: format U1, R362. -/
  | ldRHl (r : Reg8)
  /-- `LD r,(IX+d)`: format X3d, R363. -/
  | ldRIxd (r : Reg8) (d : Byte)
  /-- `LD r,(IY+d)`: format X3d, R363. -/
  | ldRIyd (r : Reg8) (d : Byte)
  /-- `LD (HL),r`: format U1, R364. -/
  | ldHlR (r : Reg8)
  /-- `LD (IX+d),r`: format X3d, R365. -/
  | ldIxdR (r : Reg8) (d : Byte)
  /-- `LD (IY+d),r`: format X3d, R365. -/
  | ldIydR (r : Reg8) (d : Byte)
  /-- `LD (HL),n`: format U2n, R366. -/
  | ldHlN (n : Byte)
  /-- `LD (IX+d),n`: format X4dn, R367. -/
  | ldIxdN (d : Byte) (n : Byte)
  /-- `LD (IY+d),n`: format X4dn, R367. -/
  | ldIydN (d : Byte) (n : Byte)
  /-- `LD A,(BC)`: format U1, R368. -/
  | ldABc
  /-- `LD A,(DE)`: format U1, R369. -/
  | ldADe
  /-- `LD A,(nn)`: format U3nn, R370. -/
  | ldAMem (nn : Word)
  /-- `LD (BC),A`: format U1, R371. -/
  | ldBcA
  /-- `LD (DE),A`: format U1, R372. -/
  | ldDeA
  /-- `LD (nn),A`: format U3nn, R373. -/
  | ldMemA (nn : Word)
  /-- `LD A,I`: format ED2, R377. -/
  | ldAI
  /-- `LD A,R`: format ED2, R378. -/
  | ldAR
  /-- `LD I,A`: format ED2, R379. -/
  | ldIA
  /-- `LD R,A`: format ED2, R380. -/
  | ldRA
  /-- `LD dd,nn`: format U3nn, R385. -/
  | ldDdNn (dd : Pair) (nn : Word)
  /-- `LD IX,nn`: format X4nn, R386. -/
  | ldIxNn (nn : Word)
  /-- `LD IY,nn`: format X4nn, R386. -/
  | ldIyNn (nn : Word)
  /-- `LD HL,(nn)`: format U3nn, R387. -/
  | ldHlMem (nn : Word)
  /-- `LD dd,(nn)`: format ED4, R388. -/
  | ldDdMem (dd : Pair) (nn : Word)
  /-- `LD IX,(nn)`: format X4nn, R389. -/
  | ldIxMem (nn : Word)
  /-- `LD IY,(nn)`: format X4nn, R389. -/
  | ldIyMem (nn : Word)
  /-- `LD (nn),HL`: format U3nn, R390. -/
  | ldMemHl (nn : Word)
  /-- `LD (nn),dd`: format ED4, R391. -/
  | ldMemDd (dd : Pair) (nn : Word)
  /-- `LD (nn),IX`: format X4nn, R392. -/
  | ldMemIx (nn : Word)
  /-- `LD (nn),IY`: format X4nn, R392. -/
  | ldMemIy (nn : Word)
  /-- `LD SP,HL`: format U1, R393. -/
  | ldSpHl
  /-- `LD SP,IX`: format X2, R394. -/
  | ldSpIx
  /-- `LD SP,IY`: format X2, R394. -/
  | ldSpIy
  /-- `PUSH qq`: format U1, R395. -/
  | pushQq (qq : PairQ)
  /-- `PUSH IX`: format X2, R396. -/
  | pushIx
  /-- `PUSH IY`: format X2, R396. -/
  | pushIy
  /-- `POP qq`: format U1, R397. -/
  | popQq (qq : PairQ)
  /-- `POP AF`: format U1, R398. -/
  | popAf
  /-- `POP IX`: format X2, R399. -/
  | popIx
  /-- `POP IY`: format X2, R399. -/
  | popIy
  -- Jumps, calls and returns (46_jump_call_return.md)
  /-- `JP nn`: format U3nn, R421. -/
  | jpNn (nn : Word)
  /-- `JP cc,nn`: format U3nn, R422. -/
  | jpCcNn (cc : Cond) (nn : Word)
  /-- `JR e`: format U2e, R423. -/
  | jrE (e : Byte)
  /-- `JR j,e`: format U2e, R424. -/
  | jrJE (j : JrCond) (e : Byte)
  /-- `DJNZ e`: format U2e, R425. -/
  | djnzE (e : Byte)
  /-- `JP (HL)`: format U1, R426. -/
  | jpHl
  /-- `JP (IX)`: format X2, R427. -/
  | jpIx
  /-- `JP (IY)`: format X2, R427. -/
  | jpIy
  /-- `CALL nn`: format U3nn, R430. -/
  | callNn (nn : Word)
  /-- `CALL cc,nn`: format U3nn, R431. -/
  | callCcNn (cc : Cond) (nn : Word)
  /-- `RET`: format U1, R434. -/
  | ret
  /-- `RET cc`: format U1, R435. -/
  | retCc (cc : Cond)
  /-- `RETI`: format ED2, R436. -/
  | reti
  /-- `RETN`: format ED2, R437. -/
  | retn
  /-- `RST t`: format U1, R440. -/
  | rstT (t : BitVec 3)
  -- CPU control (47_cpu_control.md)
  /-- `NOP`: format U1, R460. -/
  | nop
  /-- `HALT`: format U1, R461. -/
  | halt
  /-- `DI`: format U1, R462. -/
  | di
  /-- `EI`: format U1, R463. -/
  | ei
  /-- `IM 0`: format ED2, R466. -/
  | im0
  /-- `IM 1`: format ED2, R467. -/
  | im1
  /-- `IM 2`: format ED2, R468. -/
  | im2
  -- Input and output (48_io.md)
  /-- `IN A,(n)`: format U2n, R481. -/
  | inAN (n : Byte)
  /-- `OUT (n),A`: format U2n, R482. -/
  | outNA (n : Byte)
  /-- `IN r,(C)`: format ED2, R483. -/
  | inRC (r : Reg8)
  /-- `OUT (C),r`: format ED2, R484. -/
  | outCR (r : Reg8)
  /-- `INI`: format ED2, R485. -/
  | ini
  /-- `IND`: format ED2, R486. -/
  | ind
  /-- `INIR`: format ED2, R487. -/
  | inir
  /-- `INDR`: format ED2, R488. -/
  | indr
  /-- `OUTI`: format ED2, R489. -/
  | outi
  /-- `OUTD`: format ED2, R490. -/
  | outd
  /-- `OTIR`: format ED2, R491. -/
  | otir
  /-- `OTDR`: format ED2, R492. -/
  | otdr
  deriving DecidableEq, Repr

end Sys2Proof
end

