-- ==== Sys2Proof/Machine/Bits.lean ====
section
/-! DEFINITION. Bit fields, byte order, sign extension and parity (00_scope.md R7; 10_state.md R33, R48). -/

namespace Sys2Proof

/-- `promote(h, l) = h * 256 + l` (R33), also written `h:l` (R7). -/
def promote (hi lo : Byte) : Word := hi ++ lo

/-- `v[15:8]`, the high half of `demote(v)` (R33). -/
def hiByte (v : Word) : Byte := v.extractLsb' 8 8

/-- `v[7:0]`, the low half of `demote(v)` (R33). -/
def loByte (v : Word) : Byte := v.extractLsb' 0 8

/-- `demote(v) = (v[15:8], v[7:0])` (R33). -/
def demote (v : Word) : Byte × Byte := (hiByte v, loByte v)

/-- The two's complement of a value of width `w`: `(2^w - v) mod 2^w` (R33). -/
def twosComplement (w v : Nat) : Nat := (2 ^ w - v) % 2 ^ w

/-- `popcount(v)`: the number of 1 bits (R7). -/
def popcount (v : Byte) : Nat := (List.range 8).countP (fun k => v.getLsbD k)

/-- `parity(v)` is 1 when popcount(v) is even (R7, R48). -/
def parity (v : Byte) : Bool := popcount v % 2 == 0

/-- `sext_16(v8)` as a mathematical integer (R7). -/
def sext (v : Byte) : Int := v.toInt

/-- The mask `1 << b` of bit number `b` (30_encoding.md R117). -/
def bitMask (b : BitVec 3) : Byte := 1#8 <<< b.toNat

/-- Opcode field `x = op[7:6]` (30_encoding.md R116). -/
def fieldX (op : Byte) : Nat := op.toNat / 64

/-- Opcode field `y = op[5:3]` (30_encoding.md R116). -/
def fieldY (op : Byte) : Nat := op.toNat / 8 % 8

/-- Opcode field `z = op[2:0]` (30_encoding.md R116). -/
def fieldZ (op : Byte) : Nat := op.toNat % 8

/-- Opcode field `p = op[5:4]` (30_encoding.md R116). -/
def fieldP (op : Byte) : Nat := op.toNat / 16 % 4

/-- Opcode field `q = op[3]` (30_encoding.md R116). -/
def fieldQ (op : Byte) : Nat := op.toNat / 8 % 2

end Sys2Proof
end

