-- ==== Sys2Proof/WellFormed.lean ====
section
/-! DEFINITION. Which terms of `Instr` are instructions. The operand types already hold every register, condition
and bit number the fields can name and nothing else, so one check is left: the pair AF has no `POP qq` row of its
own (45_load.md R397 admits BC, DE, HL; POP AF is the separate instruction of R398). -/

namespace Sys2Proof

/-- `i` is an instruction of the opcode map (30_encoding.md R126 to R135). -/
def Instr.wf : Instr → Bool
  | .popQq qq => qq != .af
  | _ => true

end Sys2Proof
end

