-- ==== Sys2Proof/Decode.lean ====
section
/-! DEFINITION. The instruction formats, the decoder (30_encoding.md R110 to R142) and, after it, the encoder. The
decoder is total: it answers an instruction, or `illegal` with the bytes read up to the point of refusal. -/

namespace Sys2Proof

/-! ### Formats -/

/-- The encoded length of a format in bytes (30_encoding.md R111). -/
def Format.length : Format → Nat
  | .u1 => 1
  | .u2n | .u2e | .cb2 | .ed2 | .x2 => 2
  | .u3nn | .x3d => 3
  | .ed4 | .x4dn | .x4nn | .xcb4 => 4

/-- The number of M1 cycles of a format: 1 for an unprefixed instruction, 2 for every prefixed one
(30_encoding.md R115). -/
def Format.m1 : Format → Nat
  | .u1 | .u2n | .u2e | .u3nn => 1
  | .cb2 | .ed2 | .ed4 | .x2 | .x3d | .x4dn | .x4nn | .xcb4 => 2

/-- The format of each instruction form (the `format` column of the opcode table). -/
def Instr.format : Instr → Format
  | .addAR .. | .addAHl | .adcAR .. | .adcAHl | .subR .. | .subHl | .sbcAR .. | .sbcAHl | .andR .. | .andHl
    | .xorR .. | .xorHl | .orR .. | .orHl | .cpR .. | .cpHl | .incR .. | .incHl | .decR .. | .decHl | .daa
    | .cpl | .ccf | .scf | .addHlSs .. | .incSs .. | .decSs .. | .rlca | .rrca | .rla | .rra | .exDeHl | .exx
    | .exAfAf | .exSpHl | .ldRR .. | .ldRHl .. | .ldHlR .. | .ldABc | .ldADe | .ldBcA | .ldDeA | .ldSpHl
    | .pushQq .. | .popQq .. | .popAf | .jpHl | .ret | .retCc .. | .rstT .. | .nop | .halt | .di | .ei => .u1
  | .addAN .. | .adcAN .. | .subN .. | .sbcAN .. | .andN .. | .xorN .. | .orN .. | .cpN .. | .ldRN ..
    | .ldHlN .. | .inAN .. | .outNA .. => .u2n
  | .addAIxd .. | .addAIyd .. | .adcAIxd .. | .adcAIyd .. | .subIxd .. | .subIyd .. | .sbcAIxd ..
    | .sbcAIyd .. | .andIxd .. | .andIyd .. | .xorIxd .. | .xorIyd .. | .orIxd .. | .orIyd .. | .cpIxd ..
    | .cpIyd .. | .incIxd .. | .incIyd .. | .decIxd .. | .decIyd .. | .ldRIxd .. | .ldRIyd .. | .ldIxdR ..
    | .ldIydR .. => .x3d
  | .neg | .adcHlSs .. | .sbcHlSs .. | .rld | .rrd | .ldi | .ldd | .ldir | .lddr | .cpi | .cpd | .cpir
    | .cpdr | .ldAI | .ldAR | .ldIA | .ldRA | .reti | .retn | .im0 | .im1 | .im2 | .inRC .. | .outCR ..
    | .ini | .ind | .inir | .indr | .outi | .outd | .otir | .otdr => .ed2
  | .addIxPp .. | .addIyRr .. | .incIx | .decIx | .incIy | .decIy | .exSpIx | .exSpIy | .ldSpIx | .ldSpIy
    | .pushIx | .pushIy | .popIx | .popIy | .jpIx | .jpIy => .x2
  | .rlcR .. | .rlcHl | .rrcR .. | .rrcHl | .rlR .. | .rlHl | .rrR .. | .rrHl | .slaR .. | .slaHl | .sraR ..
    | .sraHl | .srlR .. | .srlHl | .bitR .. | .bitHl .. | .resR .. | .resHl .. | .setR .. | .setHl .. => .cb2
  | .rlcIxd .. | .rlcIyd .. | .rrcIxd .. | .rrcIyd .. | .rlIxd .. | .rlIyd .. | .rrIxd .. | .rrIyd ..
    | .slaIxd .. | .slaIyd .. | .sraIxd .. | .sraIyd .. | .srlIxd .. | .srlIyd .. | .bitIxd .. | .bitIyd ..
    | .resIxd .. | .resIyd .. | .setIxd .. | .setIyd .. => .xcb4
  | .ldIxdN .. | .ldIydN .. => .x4dn
  | .ldAMem .. | .ldMemA .. | .ldDdNn .. | .ldHlMem .. | .ldMemHl .. | .jpNn .. | .jpCcNn .. | .callNn ..
    | .callCcNn .. => .u3nn
  | .ldIxNn .. | .ldIyNn .. | .ldIxMem .. | .ldIyMem .. | .ldMemIx .. | .ldMemIy .. => .x4nn
  | .ldDdMem .. | .ldMemDd .. => .ed4
  | .jrE .. | .jrJE .. | .djnzE .. => .u2e

/-- The encoded length of an instruction (30_encoding.md R110, R142). -/
def Instr.length (i : Instr) : Nat := i.format.length

/-- The M1 count of an instruction, the `k` of its `IncR(k)` (30_encoding.md R115). -/
def Instr.m1 (i : Instr) : Nat := i.format.m1

/-- The instruction is EI (30_encoding.md R113, the last line of the step frame). -/
def Instr.isEi : Instr → Bool
  | .ei => true
  | _ => false

/-! ### Operand fields -/

/-- The register of a 3-bit field; 110 selects none (10_state.md R35). -/
def Reg8.ofField : Nat → Option Reg8
  | 0 => some .b
  | 1 => some .c
  | 2 => some .d
  | 3 => some .e
  | 4 => some .h
  | 5 => some .l
  | 7 => some .a
  | _ => none

/-- The pair of a 2-bit field `ss` or `dd` (10_state.md R36). -/
def Pair.ofField : Nat → Pair
  | 0 => .bc
  | 1 => .de
  | 2 => .hl
  | _ => .sp

/-- The pair of a 2-bit field `qq` (10_state.md R37). -/
def PairQ.ofField : Nat → PairQ
  | 0 => .bc
  | 1 => .de
  | 2 => .hl
  | _ => .af

/-- The pair of a 2-bit field `pp` or `rr` (10_state.md R36). -/
def PairX.ofField : Nat → PairX
  | 0 => .bc
  | 1 => .de
  | 2 => .xy
  | _ => .sp

/-- The condition of a 3-bit field (30_encoding.md R124). -/
def Cond.ofField : Nat → Cond
  | 0 => .nz
  | 1 => .z
  | 2 => .nc
  | 3 => .c
  | 4 => .po
  | 5 => .pe
  | 6 => .p
  | _ => .m

/-- The condition of the 2-bit field `j` of JR (30_encoding.md R125). -/
def JrCond.ofField : Nat → JrCond
  | 0 => .nz
  | 1 => .z
  | 2 => .nc
  | _ => .c

/-! ### The decoder -/

/-- What the decoder answers: an instruction, or IllegalInstruction with the bytes read until the sequence was
rejected (30_encoding.md R140, R142). -/
inductive Decoded where
  | instr (i : Instr)
  | illegal (bytes : List Byte)
  deriving DecidableEq, Repr

/-- ALU operation field `o` with a register source (30_encoding.md R118). -/
def aluR (o : Nat) (r : Reg8) : Instr :=
  match o with
  | 0 => .addAR r
  | 1 => .adcAR r
  | 2 => .subR r
  | 3 => .sbcAR r
  | 4 => .andR r
  | 5 => .xorR r
  | 6 => .orR r
  | _ => .cpR r

/-- ALU operation field `o` with the immediate source (30_encoding.md R118). -/
def aluN (o : Nat) (n : Byte) : Instr :=
  match o with
  | 0 => .addAN n
  | 1 => .adcAN n
  | 2 => .subN n
  | 3 => .sbcAN n
  | 4 => .andN n
  | 5 => .xorN n
  | 6 => .orN n
  | _ => .cpN n

/-- ALU operation field `o` with the source (HL) (30_encoding.md R118). -/
def aluHl (o : Nat) : Instr :=
  match o with
  | 0 => .addAHl
  | 1 => .adcAHl
  | 2 => .subHl
  | 3 => .sbcAHl
  | 4 => .andHl
  | 5 => .xorHl
  | 6 => .orHl
  | _ => .cpHl

/-- ALU operation field `o` with the source (IX+d) or (IY+d) (30_encoding.md R118, R131). -/
def aluIdx (xy : IndexReg) (o : Nat) (d : Byte) : Instr :=
  match o, xy with
  | 0, .ix => .addAIxd d
  | 0, .iy => .addAIyd d
  | 1, .ix => .adcAIxd d
  | 1, .iy => .adcAIyd d
  | 2, .ix => .subIxd d
  | 2, .iy => .subIyd d
  | 3, .ix => .sbcAIxd d
  | 3, .iy => .sbcAIyd d
  | 4, .ix => .andIxd d
  | 4, .iy => .andIyd d
  | 5, .ix => .xorIxd d
  | 5, .iy => .xorIyd d
  | 6, .ix => .orIxd d
  | 6, .iy => .orIyd d
  | _, .ix => .cpIxd d
  | _, .iy => .cpIyd d

/-- Unprefixed opcodes with x = 00 (30_encoding.md R126); `n1`, `n2` are the bytes after the opcode. -/
def decodeX0 (op n1 n2 : Byte) : Instr :=
  let y := fieldY op
  let p := fieldP op
  match fieldZ op with
  | 0 =>
    match y with
    | 0 => .nop
    | 1 => .exAfAf
    | 2 => .djnzE n1
    | 3 => .jrE n1
    | _ => .jrJE (JrCond.ofField (y - 4)) n1
  | 1 => if fieldQ op = 0 then .ldDdNn (Pair.ofField p) (promote n2 n1) else .addHlSs (Pair.ofField p)
  | 2 =>
    match y with
    | 0 => .ldBcA
    | 1 => .ldABc
    | 2 => .ldDeA
    | 3 => .ldADe
    | 4 => .ldMemHl (promote n2 n1)
    | 5 => .ldHlMem (promote n2 n1)
    | 6 => .ldMemA (promote n2 n1)
    | _ => .ldAMem (promote n2 n1)
  | 3 => if fieldQ op = 0 then .incSs (Pair.ofField p) else .decSs (Pair.ofField p)
  | 4 =>
    match Reg8.ofField y with
    | some r => .incR r
    | none => .incHl
  | 5 =>
    match Reg8.ofField y with
    | some r => .decR r
    | none => .decHl
  | 6 =>
    match Reg8.ofField y with
    | some r => .ldRN r n1
    | none => .ldHlN n1
  | _ =>
    match y with
    | 0 => .rlca
    | 1 => .rrca
    | 2 => .rla
    | 3 => .rra
    | 4 => .daa
    | 5 => .cpl
    | 6 => .scf
    | _ => .ccf

/-- Unprefixed opcodes with x = 01: `LD r,s`, with HALT in the place of LD (HL),(HL) (30_encoding.md R126). -/
def decodeX1 (op : Byte) : Instr :=
  match Reg8.ofField (fieldY op), Reg8.ofField (fieldZ op) with
  | some r, some r' => .ldRR r r'
  | some r, none => .ldRHl r
  | none, some r' => .ldHlR r'
  | none, none => .halt

/-- Unprefixed opcodes with x = 11 (30_encoding.md R126). The four prefix bytes CB, DD, ED, FD answer `none`. -/
def decodeX3 (op n1 n2 : Byte) : Option Instr :=
  let y := fieldY op
  let p := fieldP op
  match fieldZ op with
  | 0 => some (.retCc (Cond.ofField y))
  | 1 =>
    if fieldQ op = 0 then
      if p = 3 then some .popAf else some (.popQq (PairQ.ofField p))
    else
      match p with
      | 0 => some .ret
      | 1 => some .exx
      | 2 => some .jpHl
      | _ => some .ldSpHl
  | 2 => some (.jpCcNn (Cond.ofField y) (promote n2 n1))
  | 3 =>
    match y with
    | 0 => some (.jpNn (promote n2 n1))
    | 1 => none
    | 2 => some (.outNA n1)
    | 3 => some (.inAN n1)
    | 4 => some .exSpHl
    | 5 => some .exDeHl
    | 6 => some .di
    | _ => some .ei
  | 4 => some (.callCcNn (Cond.ofField y) (promote n2 n1))
  | 5 =>
    if fieldQ op = 0 then some (.pushQq (PairQ.ofField p))
    else if p = 0 then some (.callNn (promote n2 n1)) else none
  | 6 => some (aluN y n1)
  | _ => some (.rstT (BitVec.ofNat 3 y))

/-- The unprefixed table (30_encoding.md R126). -/
def decodeMain (op n1 n2 : Byte) : Option Instr :=
  match fieldX op with
  | 0 => some (decodeX0 op n1 n2)
  | 1 => some (decodeX1 op)
  | 2 =>
    match Reg8.ofField (fieldZ op) with
    | some r => some (aluR (fieldY op) r)
    | none => some (aluHl (fieldY op))
  | _ => decodeX3 op n1 n2

/-- Rotate/shift operation field `w` on a register; 110 is illegal (30_encoding.md R119, R140). -/
def shiftR (w : Nat) (r : Reg8) : Option Instr :=
  match w with
  | 0 => some (.rlcR r)
  | 1 => some (.rrcR r)
  | 2 => some (.rlR r)
  | 3 => some (.rrR r)
  | 4 => some (.slaR r)
  | 5 => some (.sraR r)
  | 6 => none
  | _ => some (.srlR r)

/-- Rotate/shift operation field `w` on (HL) (30_encoding.md R119, R140). -/
def shiftHl (w : Nat) : Option Instr :=
  match w with
  | 0 => some .rlcHl
  | 1 => some .rrcHl
  | 2 => some .rlHl
  | 3 => some .rrHl
  | 4 => some .slaHl
  | 5 => some .sraHl
  | 6 => none
  | _ => some .srlHl

/-- Rotate/shift operation field `w` on (IX+d) or (IY+d) (30_encoding.md R119, R132). -/
def shiftIdx (xy : IndexReg) (w : Nat) (d : Byte) : Option Instr :=
  match w, xy with
  | 0, .ix => some (.rlcIxd d)
  | 0, .iy => some (.rlcIyd d)
  | 1, .ix => some (.rrcIxd d)
  | 1, .iy => some (.rrcIyd d)
  | 2, .ix => some (.rlIxd d)
  | 2, .iy => some (.rlIyd d)
  | 3, .ix => some (.rrIxd d)
  | 3, .iy => some (.rrIyd d)
  | 4, .ix => some (.slaIxd d)
  | 4, .iy => some (.slaIyd d)
  | 5, .ix => some (.sraIxd d)
  | 5, .iy => some (.sraIyd d)
  | 6, _ => none
  | _, .ix => some (.srlIxd d)
  | _, .iy => some (.srlIyd d)

/-- The CB table (30_encoding.md R120, R127). -/
def decodeCB (op : Byte) : Option Instr :=
  let y := fieldY op
  let b := BitVec.ofNat 3 y
  match fieldX op, Reg8.ofField (fieldZ op) with
  | 0, some r => shiftR y r
  | 0, none => shiftHl y
  | 1, some r => some (.bitR b r)
  | 1, none => some (.bitHl b)
  | 2, some r => some (.resR b r)
  | 2, none => some (.resHl b)
  | _, some r => some (.setR b r)
  | _, none => some (.setHl b)

/-- The final byte of a DD CB d op or FD CB d op sequence: `op[2:0]` must be 110 (30_encoding.md R132). -/
def decodeXCB (xy : IndexReg) (d op : Byte) : Option Instr :=
  let y := fieldY op
  let b := BitVec.ofNat 3 y
  if fieldZ op = 6 then
    match fieldX op, xy with
    | 0, xy => shiftIdx xy y d
    | 1, .ix => some (.bitIxd b d)
    | 1, .iy => some (.bitIyd b d)
    | 2, .ix => some (.resIxd b d)
    | 2, .iy => some (.resIyd b d)
    | _, .ix => some (.setIxd b d)
    | _, .iy => some (.setIyd b d)
  else none

/-- ED opcodes with x = 01 (30_encoding.md R128). -/
def decodeEDX1 (op n1 n2 : Byte) : Option Instr :=
  let y := fieldY op
  let p := fieldP op
  match fieldZ op with
  | 0 => (Reg8.ofField y).map .inRC
  | 1 => (Reg8.ofField y).map .outCR
  | 2 => if fieldQ op = 0 then some (.sbcHlSs (Pair.ofField p)) else some (.adcHlSs (Pair.ofField p))
  | 3 =>
    if fieldQ op = 0 then some (.ldMemDd (Pair.ofField p) (promote n2 n1))
    else some (.ldDdMem (Pair.ofField p) (promote n2 n1))
  | 4 => if y = 0 then some .neg else none
  | 5 =>
    match y with
    | 0 => some .retn
    | 1 => some .reti
    | _ => none
  | 6 =>
    match y with
    | 0 => some .im0
    | 2 => some .im1
    | 3 => some .im2
    | _ => none
  | _ =>
    match y with
    | 0 => some .ldIA
    | 1 => some .ldRA
    | 2 => some .ldAI
    | 3 => some .ldAR
    | 4 => some .rrd
    | 5 => some .rld
    | _ => none

/-- ED opcodes with x = 10: the block instructions, z the operation and y the direction and repeat
(30_encoding.md R128). -/
def decodeEDX2 (op : Byte) : Option Instr :=
  match fieldZ op, fieldY op with
  | 0, 4 => some .ldi
  | 0, 5 => some .ldd
  | 0, 6 => some .ldir
  | 0, 7 => some .lddr
  | 1, 4 => some .cpi
  | 1, 5 => some .cpd
  | 1, 6 => some .cpir
  | 1, 7 => some .cpdr
  | 2, 4 => some .ini
  | 2, 5 => some .ind
  | 2, 6 => some .inir
  | 2, 7 => some .indr
  | 3, 4 => some .outi
  | 3, 5 => some .outd
  | 3, 6 => some .otir
  | 3, 7 => some .otdr
  | _, _ => none

/-- The ED table (30_encoding.md R128). -/
def decodeED (op n1 n2 : Byte) : Option Instr :=
  match fieldX op with
  | 1 => decodeEDX1 op n1 n2
  | 2 => decodeEDX2 op
  | _ => none

/-- Choose the IX or the IY form by the selected index register. -/
def IndexReg.pick {α : Type} (xy : IndexReg) (ix iy : α) : α :=
  match xy with
  | .ix => ix
  | .iy => iy

/-- DD and FD opcodes with x = 00 (30_encoding.md R131). -/
def decodeXYX0 (xy : IndexReg) (op n1 n2 : Byte) : Option Instr :=
  let nn := promote n2 n1
  match fieldZ op, fieldY op with
  | 1, 4 => some (xy.pick (.ldIxNn nn) (.ldIyNn nn))
  | 1, y =>
    if y % 2 = 1 then
      some (xy.pick (.addIxPp (PairX.ofField (fieldP op))) (.addIyRr (PairX.ofField (fieldP op))))
    else none
  | 2, 4 => some (xy.pick (.ldMemIx nn) (.ldMemIy nn))
  | 2, 5 => some (xy.pick (.ldIxMem nn) (.ldIyMem nn))
  | 3, 4 => some (xy.pick .incIx .incIy)
  | 3, 5 => some (xy.pick .decIx .decIy)
  | 4, 6 => some (xy.pick (.incIxd n1) (.incIyd n1))
  | 5, 6 => some (xy.pick (.decIxd n1) (.decIyd n1))
  | 6, 6 => some (xy.pick (.ldIxdN n1 n2) (.ldIydN n1 n2))
  | _, _ => none

/-- DD and FD opcodes with x = 11 (30_encoding.md R131). -/
def decodeXYX3 (xy : IndexReg) (op : Byte) : Option Instr :=
  match fieldZ op, fieldY op with
  | 1, 4 => some (xy.pick .popIx .popIy)
  | 1, 5 => some (xy.pick .jpIx .jpIy)
  | 1, 7 => some (xy.pick .ldSpIx .ldSpIy)
  | 3, 4 => some (xy.pick .exSpIx .exSpIy)
  | 5, 4 => some (xy.pick .pushIx .pushIy)
  | _, _ => none

/-- The DD (IX) and FD (IY) table (30_encoding.md R130, R131); `n1`, `n2` are the bytes after the opcode. -/
def decodeXY (xy : IndexReg) (op n1 n2 : Byte) : Option Instr :=
  match fieldX op with
  | 0 => decodeXYX0 xy op n1 n2
  | 1 =>
    match Reg8.ofField (fieldY op), Reg8.ofField (fieldZ op) with
    | some r, none => some (xy.pick (.ldRIxd r n1) (.ldRIyd r n1))
    | none, some r => some (xy.pick (.ldIxdR r n1) (.ldIydR r n1))
    | _, _ => none
  | 2 => if fieldZ op = 6 then some (aluIdx xy (fieldY op) n1) else none
  | _ => decodeXYX3 xy op

/-- An instruction, or IllegalInstruction with the bytes read so far. -/
def orIllegal (i : Option Instr) (bytes : List Byte) : Decoded :=
  match i with
  | some i => .instr i
  | none => .illegal bytes

/-- Decoding after a DD or FD prefix byte `b0` (30_encoding.md R142). -/
def decodeIndexed (xy : IndexReg) (b0 b1 b2 b3 : Byte) : Decoded :=
  if b1 = 0xCB#8 then orIllegal (decodeXCB xy b2 b3) [b0, b1, b2, b3]
  else orIllegal (decodeXY xy b1 b2 b3) [b0, b1]

/-- `Decode` (30_encoding.md R114, R142) of the bytes of a program in address order. An instruction has at most
four bytes; bytes past its length are ignored and a missing operand byte reads as zero. -/
def decode (bytes : List Byte) : Decoded :=
  let b0 := bytes.getD 0 0
  let b1 := bytes.getD 1 0
  let b2 := bytes.getD 2 0
  let b3 := bytes.getD 3 0
  if b0 = 0xCB#8 then orIllegal (decodeCB b1) [b0, b1]
  else if b0 = 0xED#8 then orIllegal (decodeED b1 b2 b3) [b0, b1]
  else if b0 = 0xDD#8 then decodeIndexed .ix b0 b1 b2 b3
  else if b0 = 0xFD#8 then decodeIndexed .iy b0 b1 b2 b3
  else orIllegal (decodeMain b0 b1 b2) [b0]

/-! ### The encoder -/

/-- The 3-bit field of a register (10_state.md R35). -/
def Reg8.code : Reg8 → Byte
  | .b => 0
  | .c => 1
  | .d => 2
  | .e => 3
  | .h => 4
  | .l => 5
  | .a => 7

/-- The 2-bit field of a pair `ss`, `dd` (10_state.md R36). -/
def Pair.code : Pair → Byte
  | .bc => 0
  | .de => 1
  | .hl => 2
  | .sp => 3

/-- The 2-bit field of a pair `qq` (10_state.md R37). -/
def PairQ.code : PairQ → Byte
  | .bc => 0
  | .de => 1
  | .hl => 2
  | .af => 3

/-- The 2-bit field of a pair `pp`, `rr` (10_state.md R36). -/
def PairX.code : PairX → Byte
  | .bc => 0
  | .de => 1
  | .xy => 2
  | .sp => 3

/-- The 3-bit field of a condition (30_encoding.md R124). -/
def Cond.code : Cond → Byte
  | .nz => 0
  | .z => 1
  | .nc => 2
  | .c => 3
  | .po => 4
  | .pe => 5
  | .p => 6
  | .m => 7

/-- The 2-bit field of a JR condition (30_encoding.md R125). -/
def JrCond.code : JrCond → Byte
  | .nz => 0
  | .z => 1
  | .nc => 2
  | .c => 3

/-- Place a field in bits 5:3 of an opcode byte (30_encoding.md R116). -/
def atY (f : Byte) : Byte := f <<< 3

/-- Place a field in bits 5:4 of an opcode byte (30_encoding.md R116). -/
def atP (f : Byte) : Byte := f <<< 4

/-- The bit number or restart field in bits 5:3 of an opcode byte (30_encoding.md R116). -/
def num3AtY (b : BitVec 3) : Byte := atY (b.zeroExtend 8)

/-- The bytes of an instruction in address order: the opcode bytes of the table's `match` column with the operand
fields placed by 30_encoding.md R116, and the operand bytes by R111 and R117. -/
def encode : Instr → List Byte
  -- 8-bit arithmetic and logic (40_alu8.md)
  | .addAR r => [0x80#8 ||| r.code]
  | .addAN n => [0xC6#8, n]
  | .addAHl => [0x86#8]
  | .addAIxd d => [0xDD#8, 0x86#8, d]
  | .addAIyd d => [0xFD#8, 0x86#8, d]
  | .adcAR r => [0x88#8 ||| r.code]
  | .adcAN n => [0xCE#8, n]
  | .adcAHl => [0x8E#8]
  | .adcAIxd d => [0xDD#8, 0x8E#8, d]
  | .adcAIyd d => [0xFD#8, 0x8E#8, d]
  | .subR r => [0x90#8 ||| r.code]
  | .subN n => [0xD6#8, n]
  | .subHl => [0x96#8]
  | .subIxd d => [0xDD#8, 0x96#8, d]
  | .subIyd d => [0xFD#8, 0x96#8, d]
  | .sbcAR r => [0x98#8 ||| r.code]
  | .sbcAN n => [0xDE#8, n]
  | .sbcAHl => [0x9E#8]
  | .sbcAIxd d => [0xDD#8, 0x9E#8, d]
  | .sbcAIyd d => [0xFD#8, 0x9E#8, d]
  | .andR r => [0xA0#8 ||| r.code]
  | .andN n => [0xE6#8, n]
  | .andHl => [0xA6#8]
  | .andIxd d => [0xDD#8, 0xA6#8, d]
  | .andIyd d => [0xFD#8, 0xA6#8, d]
  | .xorR r => [0xA8#8 ||| r.code]
  | .xorN n => [0xEE#8, n]
  | .xorHl => [0xAE#8]
  | .xorIxd d => [0xDD#8, 0xAE#8, d]
  | .xorIyd d => [0xFD#8, 0xAE#8, d]
  | .orR r => [0xB0#8 ||| r.code]
  | .orN n => [0xF6#8, n]
  | .orHl => [0xB6#8]
  | .orIxd d => [0xDD#8, 0xB6#8, d]
  | .orIyd d => [0xFD#8, 0xB6#8, d]
  | .cpR r => [0xB8#8 ||| r.code]
  | .cpN n => [0xFE#8, n]
  | .cpHl => [0xBE#8]
  | .cpIxd d => [0xDD#8, 0xBE#8, d]
  | .cpIyd d => [0xFD#8, 0xBE#8, d]
  | .incR r => [0x04#8 ||| atY r.code]
  | .incHl => [0x34#8]
  | .incIxd d => [0xDD#8, 0x34#8, d]
  | .incIyd d => [0xFD#8, 0x34#8, d]
  | .decR r => [0x05#8 ||| atY r.code]
  | .decHl => [0x35#8]
  | .decIxd d => [0xDD#8, 0x35#8, d]
  | .decIyd d => [0xFD#8, 0x35#8, d]
  | .daa => [0x27#8]
  | .cpl => [0x2F#8]
  | .ccf => [0x3F#8]
  | .scf => [0x37#8]
  | .neg => [0xED#8, 0x44#8]
  -- 16-bit arithmetic (41_alu16.md)
  | .addHlSs ss => [0x09#8 ||| atP ss.code]
  | .adcHlSs ss => [0xED#8, 0x4A#8 ||| atP ss.code]
  | .sbcHlSs ss => [0xED#8, 0x42#8 ||| atP ss.code]
  | .addIxPp pp => [0xDD#8, 0x09#8 ||| atP pp.code]
  | .addIyRr rr => [0xFD#8, 0x09#8 ||| atP rr.code]
  | .incSs ss => [0x03#8 ||| atP ss.code]
  | .decSs ss => [0x0B#8 ||| atP ss.code]
  | .incIx => [0xDD#8, 0x23#8]
  | .decIx => [0xDD#8, 0x2B#8]
  | .incIy => [0xFD#8, 0x23#8]
  | .decIy => [0xFD#8, 0x2B#8]
  -- Rotate and shift (42_rotate_shift.md)
  | .rlca => [0x07#8]
  | .rrca => [0x0F#8]
  | .rla => [0x17#8]
  | .rra => [0x1F#8]
  | .rlcR r => [0xCB#8, 0x00#8 ||| r.code]
  | .rlcHl => [0xCB#8, 0x06#8]
  | .rlcIxd d => [0xDD#8, 0xCB#8, d, 0x06#8]
  | .rlcIyd d => [0xFD#8, 0xCB#8, d, 0x06#8]
  | .rrcR r => [0xCB#8, 0x08#8 ||| r.code]
  | .rrcHl => [0xCB#8, 0x0E#8]
  | .rrcIxd d => [0xDD#8, 0xCB#8, d, 0x0E#8]
  | .rrcIyd d => [0xFD#8, 0xCB#8, d, 0x0E#8]
  | .rlR r => [0xCB#8, 0x10#8 ||| r.code]
  | .rlHl => [0xCB#8, 0x16#8]
  | .rlIxd d => [0xDD#8, 0xCB#8, d, 0x16#8]
  | .rlIyd d => [0xFD#8, 0xCB#8, d, 0x16#8]
  | .rrR r => [0xCB#8, 0x18#8 ||| r.code]
  | .rrHl => [0xCB#8, 0x1E#8]
  | .rrIxd d => [0xDD#8, 0xCB#8, d, 0x1E#8]
  | .rrIyd d => [0xFD#8, 0xCB#8, d, 0x1E#8]
  | .slaR r => [0xCB#8, 0x20#8 ||| r.code]
  | .slaHl => [0xCB#8, 0x26#8]
  | .slaIxd d => [0xDD#8, 0xCB#8, d, 0x26#8]
  | .slaIyd d => [0xFD#8, 0xCB#8, d, 0x26#8]
  | .sraR r => [0xCB#8, 0x28#8 ||| r.code]
  | .sraHl => [0xCB#8, 0x2E#8]
  | .sraIxd d => [0xDD#8, 0xCB#8, d, 0x2E#8]
  | .sraIyd d => [0xFD#8, 0xCB#8, d, 0x2E#8]
  | .srlR r => [0xCB#8, 0x38#8 ||| r.code]
  | .srlHl => [0xCB#8, 0x3E#8]
  | .srlIxd d => [0xDD#8, 0xCB#8, d, 0x3E#8]
  | .srlIyd d => [0xFD#8, 0xCB#8, d, 0x3E#8]
  | .rld => [0xED#8, 0x6F#8]
  | .rrd => [0xED#8, 0x67#8]
  -- Bit test, set and reset (43_bit.md)
  | .bitR b r => [0xCB#8, 0x40#8 ||| num3AtY b ||| r.code]
  | .bitHl b => [0xCB#8, 0x46#8 ||| num3AtY b]
  | .bitIxd b d => [0xDD#8, 0xCB#8, d, 0x46#8 ||| num3AtY b]
  | .bitIyd b d => [0xFD#8, 0xCB#8, d, 0x46#8 ||| num3AtY b]
  | .resR b r => [0xCB#8, 0x80#8 ||| num3AtY b ||| r.code]
  | .resHl b => [0xCB#8, 0x86#8 ||| num3AtY b]
  | .resIxd b d => [0xDD#8, 0xCB#8, d, 0x86#8 ||| num3AtY b]
  | .resIyd b d => [0xFD#8, 0xCB#8, d, 0x86#8 ||| num3AtY b]
  | .setR b r => [0xCB#8, 0xC0#8 ||| num3AtY b ||| r.code]
  | .setHl b => [0xCB#8, 0xC6#8 ||| num3AtY b]
  | .setIxd b d => [0xDD#8, 0xCB#8, d, 0xC6#8 ||| num3AtY b]
  | .setIyd b d => [0xFD#8, 0xCB#8, d, 0xC6#8 ||| num3AtY b]
  -- Exchange, block transfer and block search (44_exchange_block.md)
  | .exDeHl => [0xEB#8]
  | .exx => [0xD9#8]
  | .exAfAf => [0x08#8]
  | .exSpHl => [0xE3#8]
  | .exSpIx => [0xDD#8, 0xE3#8]
  | .exSpIy => [0xFD#8, 0xE3#8]
  | .ldi => [0xED#8, 0xA0#8]
  | .ldd => [0xED#8, 0xA8#8]
  | .ldir => [0xED#8, 0xB0#8]
  | .lddr => [0xED#8, 0xB8#8]
  | .cpi => [0xED#8, 0xA1#8]
  | .cpd => [0xED#8, 0xA9#8]
  | .cpir => [0xED#8, 0xB1#8]
  | .cpdr => [0xED#8, 0xB9#8]
  -- Loads, stores and the stack (45_load.md)
  | .ldRR r r' => [0x40#8 ||| atY r.code ||| r'.code]
  | .ldRN r n => [0x06#8 ||| atY r.code, n]
  | .ldRHl r => [0x46#8 ||| atY r.code]
  | .ldRIxd r d => [0xDD#8, 0x46#8 ||| atY r.code, d]
  | .ldRIyd r d => [0xFD#8, 0x46#8 ||| atY r.code, d]
  | .ldHlR r => [0x70#8 ||| r.code]
  | .ldIxdR r d => [0xDD#8, 0x70#8 ||| r.code, d]
  | .ldIydR r d => [0xFD#8, 0x70#8 ||| r.code, d]
  | .ldHlN n => [0x36#8, n]
  | .ldIxdN d n => [0xDD#8, 0x36#8, d, n]
  | .ldIydN d n => [0xFD#8, 0x36#8, d, n]
  | .ldABc => [0x0A#8]
  | .ldADe => [0x1A#8]
  | .ldAMem nn => [0x3A#8, loByte nn, hiByte nn]
  | .ldBcA => [0x02#8]
  | .ldDeA => [0x12#8]
  | .ldMemA nn => [0x32#8, loByte nn, hiByte nn]
  | .ldAI => [0xED#8, 0x57#8]
  | .ldAR => [0xED#8, 0x5F#8]
  | .ldIA => [0xED#8, 0x47#8]
  | .ldRA => [0xED#8, 0x4F#8]
  | .ldDdNn dd nn => [0x01#8 ||| atP dd.code, loByte nn, hiByte nn]
  | .ldIxNn nn => [0xDD#8, 0x21#8, loByte nn, hiByte nn]
  | .ldIyNn nn => [0xFD#8, 0x21#8, loByte nn, hiByte nn]
  | .ldHlMem nn => [0x2A#8, loByte nn, hiByte nn]
  | .ldDdMem dd nn => [0xED#8, 0x4B#8 ||| atP dd.code, loByte nn, hiByte nn]
  | .ldIxMem nn => [0xDD#8, 0x2A#8, loByte nn, hiByte nn]
  | .ldIyMem nn => [0xFD#8, 0x2A#8, loByte nn, hiByte nn]
  | .ldMemHl nn => [0x22#8, loByte nn, hiByte nn]
  | .ldMemDd dd nn => [0xED#8, 0x43#8 ||| atP dd.code, loByte nn, hiByte nn]
  | .ldMemIx nn => [0xDD#8, 0x22#8, loByte nn, hiByte nn]
  | .ldMemIy nn => [0xFD#8, 0x22#8, loByte nn, hiByte nn]
  | .ldSpHl => [0xF9#8]
  | .ldSpIx => [0xDD#8, 0xF9#8]
  | .ldSpIy => [0xFD#8, 0xF9#8]
  | .pushQq qq => [0xC5#8 ||| atP qq.code]
  | .pushIx => [0xDD#8, 0xE5#8]
  | .pushIy => [0xFD#8, 0xE5#8]
  | .popQq qq => [0xC1#8 ||| atP qq.code]
  | .popAf => [0xF1#8]
  | .popIx => [0xDD#8, 0xE1#8]
  | .popIy => [0xFD#8, 0xE1#8]
  -- Jumps, calls and returns (46_jump_call_return.md)
  | .jpNn nn => [0xC3#8, loByte nn, hiByte nn]
  | .jpCcNn cc nn => [0xC2#8 ||| atY cc.code, loByte nn, hiByte nn]
  | .jrE e => [0x18#8, e]
  | .jrJE j e => [0x20#8 ||| atY j.code, e]
  | .djnzE e => [0x10#8, e]
  | .jpHl => [0xE9#8]
  | .jpIx => [0xDD#8, 0xE9#8]
  | .jpIy => [0xFD#8, 0xE9#8]
  | .callNn nn => [0xCD#8, loByte nn, hiByte nn]
  | .callCcNn cc nn => [0xC4#8 ||| atY cc.code, loByte nn, hiByte nn]
  | .ret => [0xC9#8]
  | .retCc cc => [0xC0#8 ||| atY cc.code]
  | .reti => [0xED#8, 0x4D#8]
  | .retn => [0xED#8, 0x45#8]
  | .rstT t => [0xC7#8 ||| num3AtY t]
  -- CPU control (47_cpu_control.md)
  | .nop => [0x00#8]
  | .halt => [0x76#8]
  | .di => [0xF3#8]
  | .ei => [0xFB#8]
  | .im0 => [0xED#8, 0x46#8]
  | .im1 => [0xED#8, 0x56#8]
  | .im2 => [0xED#8, 0x5E#8]
  -- Input and output (48_io.md)
  | .inAN n => [0xDB#8, n]
  | .outNA n => [0xD3#8, n]
  | .inRC r => [0xED#8, 0x40#8 ||| atY r.code]
  | .outCR r => [0xED#8, 0x41#8 ||| atY r.code]
  | .ini => [0xED#8, 0xA2#8]
  | .ind => [0xED#8, 0xAA#8]
  | .inir => [0xED#8, 0xB2#8]
  | .indr => [0xED#8, 0xBA#8]
  | .outi => [0xED#8, 0xA3#8]
  | .outd => [0xED#8, 0xAB#8]
  | .otir => [0xED#8, 0xB3#8]
  | .otdr => [0xED#8, 0xBB#8]

/-! ### The opcode table's words -/

/-- The little-endian list of the `n` low bytes of a number. -/
def bytesLE : Nat → Nat → List Byte
  | 0, _ => []
  | n + 1, w => BitVec.ofNat 8 w :: bytesLE n (w / 256)

/-- The four prefix bytes (30_encoding.md R114). -/
def isPrefixByte (b : Byte) : Bool := b == 0xCB#8 || b == 0xDD#8 || b == 0xED#8 || b == 0xFD#8

/-- The bytes of the instruction a key stands for, operand bytes zero. The key of format XCB4 is byte 0, byte 1 and
byte 3, so a zero displacement goes between (30_encoding.md R147). -/
def keyBytes (key : List Byte) : List Byte :=
  match key with
  | [b0, b1, b3] =>
    if (b0 == 0xDD#8 || b0 == 0xFD#8) && b1 == 0xCB#8 then [b0, b1, 0, b3] else [b0, b1, b3, 0]
  | bs => (bs ++ [0, 0, 0, 0]).take 4

/-- The bytes are an instruction. -/
def isLegal (bytes : List Byte) : Bool :=
  match decode bytes with
  | .instr _ => true
  | .illegal _ => false

/-- The bytes of the instruction a table word stands for. The table writes a key of several bytes with its first byte
most significant (30_encoding.md R147: `match` and `mask` are "over the key bytes in address order"), and every key of
several bytes begins with a prefix byte. A word of several bytes that is no instruction when read so is read with its
first byte least significant (notes/assumptions/9.md). -/
def tableBytes (nbits w : Nat) : List Byte :=
  let le := bytesLE (nbits / 8) w
  let be := le.reverse
  if isPrefixByte (be.getD 0 0) && isLegal (keyBytes be) then keyBytes be else keyBytes le

/-- The instruction the decoder reads from a word of spec/opcode_table.json. -/
def decodeTableWord (nbits w : Nat) : Option Instr :=
  match decode (tableBytes nbits w) with
  | .instr i => some i
  | .illegal _ => none

end Sys2Proof
end

