-- ==== Sys2Proof/Machine/Flags.lean ====
section
/-! DEFINITION. The status flag engine (10_state.md R40 to R53): the layout of F, the arithmetic functions every
family computes its flags with, and the flag columns of the instruction classes. -/

namespace Sys2Proof.Machine

/-! ### The layout of F (R40) -/

def flagS (f : Byte) : Bool := f.getLsbD 7
def flagZ (f : Byte) : Bool := f.getLsbD 6
def flagH (f : Byte) : Bool := f.getLsbD 4
def flagPV (f : Byte) : Bool := f.getLsbD 2
def flagN (f : Byte) : Bool := f.getLsbD 1
def flagC (f : Byte) : Bool := f.getLsbD 0

/-- The unused bit F[5] (R40, R41). -/
def flag5 (f : Byte) : Bool := f.getLsbD 5

/-- The unused bit F[3] (R40, R41). -/
def flag3 (f : Byte) : Bool := f.getLsbD 3

/-- A byte from its eight bits, bit 7 first. -/
def byteOfBits (b7 b6 b5 b4 b3 b2 b1 b0 : Bool) : Byte :=
  BitVec.ofBool b7 ++ BitVec.ofBool b6 ++ BitVec.ofBool b5 ++ BitVec.ofBool b4
    ++ BitVec.ofBool b3 ++ BitVec.ofBool b2 ++ BitVec.ofBool b1 ++ BitVec.ofBool b0

/-- What an instruction does with each of the six flags: `none` preserves it (00_scope.md R10). -/
structure FlagEffect where
  s : Option Bool := none
  z : Option Bool := none
  h : Option Bool := none
  pv : Option Bool := none
  n : Option Bool := none
  c : Option Bool := none
  deriving DecidableEq, Repr

/-- `SetFlags` (R49): the flags given, else the current ones; F[5] and F[3] kept (R41). -/
def setFlags (f : Byte) (e : FlagEffect) : Byte :=
  byteOfBits (e.s.getD (flagS f)) (e.z.getD (flagZ f)) (flag5 f) (e.h.getD (flagH f))
    (flag3 f) (e.pv.getD (flagPV f)) (e.n.getD (flagN f)) (e.c.getD (flagC f))

/-! ### Arithmetic with flags (R44 to R47) -/

/-- The result and the half-carry, overflow and carry of an addition or subtraction. -/
structure Arith (w : Nat) where
  r : BitVec w
  h : Bool
  v : Bool
  c : Bool
  deriving DecidableEq, Repr

/-- Addition with carry-in at width `w`, the half-carry out of the low `lo` bits (R44 for bytes, R46 for words). -/
def addCarry {w : Nat} (lo : Nat) (a b : BitVec w) (cin : Bool) : Arith w :=
  let t := a.toNat + b.toNat + cin.toNat
  let r := BitVec.ofNat w t
  { r := r
    h := decide (2 ^ lo ≤ a.toNat % 2 ^ lo + b.toNat % 2 ^ lo + cin.toNat)
    v := (a.msb == b.msb) && (r.msb != a.msb)
    c := decide (2 ^ w ≤ t) }

/-- Subtraction with borrow-in at width `w`, the half-borrow into the low `lo` bits (R45 for bytes, R47 for
words). -/
def subBorrow {w : Nat} (lo : Nat) (a b : BitVec w) (cin : Bool) : Arith w :=
  let t : Int := (a.toNat : Int) - (b.toNat : Int) - (cin.toNat : Int)
  let r := BitVec.ofInt w t
  { r := r
    h := decide (((a.toNat % 2 ^ lo : Nat) : Int) - ((b.toNat % 2 ^ lo : Nat) : Int) - (cin.toNat : Int) < 0)
    v := (a.msb != b.msb) && (r.msb != a.msb)
    c := decide (t < 0) }

/-- `add8` (R44). -/
def add8 (a b : Byte) (cin : Bool) : Arith 8 := addCarry 4 a b cin

/-- `sub8` (R45). -/
def sub8 (a b : Byte) (cin : Bool) : Arith 8 := subBorrow 4 a b cin

/-- `add16` (R46). -/
def add16 (a b : Word) (cin : Bool) : Arith 16 := addCarry 12 a b cin

/-- `sub16` (R47). -/
def sub16 (a b : Word) (cin : Bool) : Arith 16 := subBorrow 12 a b cin

/-- `H_ADD`, the half-carry table of additions, indexed by `a[3] + 2*b[3] + 4*r[3]` (R43). -/
def halfCarryAdd (idx : Nat) : Bool := [false, true, true, true, false, false, false, true].getD idx false

/-- `H_SUB`, the half-carry table of subtractions, indexed by `a[3] + 2*b[3] + 4*r[3]` (R43). -/
def halfCarrySub (idx : Nat) : Bool := [false, false, true, false, true, false, true, true].getD idx false

/-- The index of the half-carry tables (R43). -/
def halfCarryIndex (a b r : Byte) : Nat :=
  (a.getLsbD 3).toNat + 2 * (b.getLsbD 3).toNat + 4 * (r.getLsbD 3).toNat

/-! ### The flag columns of the instruction classes -/

/-- S, Z, H, PV (overflow), N and C of an arithmetic result: ADD, ADC, SUB, SBC, CP, NEG, ADC HL, SBC HL
(40_alu8.md R201 to R204, R208, R222; 41_alu16.md R251, R252). -/
def arithEffect {w : Nat} (x : Arith w) (n : Bool) : FlagEffect :=
  { s := some x.r.msb, z := some (x.r == 0), h := some x.h, pv := some x.v, n := some n, c := some x.c }

/-- INC and DEC: as an arithmetic result, but C is preserved (40_alu8.md R210, R211). -/
def incDecEffect (x : Arith 8) (n : Bool) : FlagEffect :=
  { s := some x.r.msb, z := some (x.r == 0), h := some x.h, pv := some x.v, n := some n }

/-- AND, XOR, OR: PV is the parity, N = 0, C = 0 (40_alu8.md R205 to R207). -/
def logicEffect (r : Byte) (h : Bool) : FlagEffect :=
  { s := some r.msb, z := some (r == 0), h := some h, pv := some (parity r), n := some false, c := some false }

/-- ADD HL, ADD IX, ADD IY: S, Z, PV preserved (41_alu16.md R250, R253, R254). -/
def add16Effect (x : Arith 16) : FlagEffect :=
  { h := some x.h, n := some false, c := some x.c }

/-- RLCA, RRCA, RLA, RRA: S, Z, PV preserved (42_rotate_shift.md R280 to R283). -/
def accRotateEffect (co : Bool) : FlagEffect :=
  { h := some false, n := some false, c := some co }

/-- The CB rotates and shifts (42_rotate_shift.md R285). -/
def shiftEffect (res : Byte) (co : Bool) : FlagEffect :=
  { s := some res.msb, z := some (res == 0), h := some false, pv := some (parity res), n := some false,
    c := some co }

/-- RLD and RRD: flags of the new A, C preserved (42_rotate_shift.md R295, R296). -/
def nibbleEffect (a : Byte) : FlagEffect :=
  { s := some a.msb, z := some (a == 0), h := some false, pv := some (parity a), n := some false }

/-- BIT: Z and PV tell that the tested bit is 0, H = 1, N = 0 (43_bit.md R310 to R312). -/
def bitEffect (t : Byte) : FlagEffect :=
  { z := some (t == 0), h := some true, pv := some (t == 0), n := some false }

/-- LDI, LDD, LDIR, LDDR: PV tells that the count is not exhausted (44_exchange_block.md R335). -/
def transferEffect (bc : Word) : FlagEffect :=
  { h := some false, pv := some (bc != 0), n := some false }

/-- CPI, CPD, CPIR, CPDR: S, Z, H of the comparison, PV of the count, N = 1 (44_exchange_block.md R342). -/
def searchEffect (x : Arith 8) (bc : Word) : FlagEffect :=
  { s := some x.r.msb, z := some (x.r == 0), h := some x.h, pv := some (bc != 0), n := some true }

/-- LD A,I and LD A,R: PV is IFF2, C preserved (45_load.md R377, R378). -/
def loadSpecialEffect (a : Byte) (iff2 : Bool) : FlagEffect :=
  { s := some a.msb, z := some (a == 0), h := some false, pv := some iff2, n := some false }

/-- CPL: H = 1, N = 1 (40_alu8.md R221). -/
def cplEffect : FlagEffect := { h := some true, n := some true }

/-- CCF: H is the old carry, C its complement, N = 0 (40_alu8.md R223). -/
def ccfEffect (old : Bool) : FlagEffect := { h := some old, n := some false, c := some (!old) }

/-- SCF: H = 0, N = 0, C = 1 (40_alu8.md R224). -/
def scfEffect : FlagEffect := { h := some false, n := some false, c := some true }

/-- `SetFlags` after DAA: N preserved (40_alu8.md R220). -/
def daaEffect (r : Byte) (h c : Bool) : FlagEffect :=
  { s := some r.msb, z := some (r == 0), h := some h, pv := some (parity r), c := some c }

/-- The adjustment of DAA: the new A, H and C from the old A and F (40_alu8.md R220). -/
def daaAdjust (a f : Byte) : Byte × Bool × Bool :=
  let lo := a.toNat % 16
  let low := flagH f || decide (9 < lo)
  let high := flagC f || decide (0x99 < a.toNat)
  let diff : Byte := (if low then 0x06#8 else 0#8) ||| (if high then 0x60#8 else 0#8)
  let r := if flagN f then a - diff else a + diff
  let h := if flagN f then flagH f && decide (lo < 6) else decide (9 < lo)
  (r, h, high)

/-! ### Rotates and shifts (42_rotate_shift.md R286 to R292): the result and the bit shifted out -/

/-- The byte `v[6:0] : low`, a shift left by one. -/
def shiftLeftIn (v : Byte) (low : Bool) : Byte := (v <<< 1) ||| (if low then 0x01#8 else 0#8)

/-- The byte `high : v[7:1]`, a shift right by one. -/
def shiftRightIn (v : Byte) (high : Bool) : Byte := (v >>> 1) ||| (if high then 0x80#8 else 0#8)

/-- RLC (R286). -/
def shiftRLC (v : Byte) (_ : Bool) : Byte × Bool := (shiftLeftIn v (v.getLsbD 7), v.getLsbD 7)

/-- RRC (R287). -/
def shiftRRC (v : Byte) (_ : Bool) : Byte × Bool := (shiftRightIn v (v.getLsbD 0), v.getLsbD 0)

/-- RL (R288). -/
def shiftRL (v : Byte) (cin : Bool) : Byte × Bool := (shiftLeftIn v cin, v.getLsbD 7)

/-- RR (R289). -/
def shiftRR (v : Byte) (cin : Bool) : Byte × Bool := (shiftRightIn v cin, v.getLsbD 0)

/-- SLA (R290). -/
def shiftSLA (v : Byte) (_ : Bool) : Byte × Bool := (shiftLeftIn v false, v.getLsbD 7)

/-- SRA (R291): bit 7 is kept. -/
def shiftSRA (v : Byte) (_ : Bool) : Byte × Bool := (shiftRightIn v (v.getLsbD 7), v.getLsbD 0)

/-- SRL (R292). -/
def shiftSRL (v : Byte) (_ : Bool) : Byte × Bool := (shiftRightIn v false, v.getLsbD 0)

/-! ### Conditions -/

/-- `cond(c)` (30_encoding.md R124). -/
def condHolds (cc : Cond) (f : Byte) : Bool :=
  match cc with
  | .nz => !flagZ f
  | .z => flagZ f
  | .nc => !flagC f
  | .c => flagC f
  | .po => !flagPV f
  | .pe => flagPV f
  | .p => !flagS f
  | .m => flagS f

/-- The condition of JR (30_encoding.md R125). -/
def jrCondHolds (j : JrCond) (f : Byte) : Bool :=
  match j with
  | .nz => !flagZ f
  | .z => flagZ f
  | .nc => !flagC f
  | .c => flagC f

end Sys2Proof.Machine
end

