-- ==== Sys2Proof/Config.lean ====
section
/-! DEFINITION. What this hardware fixes: the memory capacity and the fixed addresses (R6, R84).
The spec leaves no value of the core open (93_implementation_defined.md, end of part 1), so there is no
free value here. -/

namespace Sys2Proof.Config

/-- `MEM_SIZE` of this hardware: the full 16-bit address space (R6, R80; 92_eei_decisions.md D1). The
rules are written for every value 1..65536, so `Machine.Memory` carries the capacity it was built with and
this is the value it is built with. -/
def memSize : Nat := 65536

/-- Where execution starts after RESET and construction (R84, R560). -/
def resetVector : Word := 0x0000#16

/-- The non-maskable interrupt entry (R84, R515). -/
def nmiVector : Word := 0x0066#16

/-- The mode-1 interrupt entry (R84, R520). -/
def im1Vector : Word := 0x0038#16

end Sys2Proof.Config
end

