-- ==== Sys2Proof/Machine/State.lean ====
section
/-! DEFINITION. The state of the core (10_state.md R30), the inputs and outcomes of a step (60_exceptions.md R501,
R503), the fault records (R504), and the state at construction and RESET. -/

namespace Sys2Proof.Machine

/-! ### Faults and refusals -/

/-- The kind of the memory access that was out of range (60_exceptions.md R504). -/
inductive AccessKind where
  | fetch | read | write
  deriving DecidableEq, Repr

/-- The two causes of the Unimplemented outcome (60_exceptions.md R507). -/
inductive UnimplementedReason where
  | ioNotInCore | im0BusByte
  deriving DecidableEq, Repr

/-- The fault records of 60_exceptions.md R504. A fault of this core does not stop the model: the spec gives its
whole effect (R505: the state of the start of the step with run_state = Faulted), so a step that raises one answers
a NEXT state that holds the record, and no step of this model answers `Host.Outcome.fault`. -/
inductive Fault where
  /-- Code 1, raised by the decoder on bytes that are no instruction of the opcode map: the address of the first
  byte and the bytes read until the sequence was rejected (R506). Safe: it is the spec's own outcome. -/
  | illegalInstruction (pc0 : Word) (bytes : List Byte)
  /-- Code 2, raised by every I/O instruction and by an IM 0 response whose bus byte is no RST opcode: the reason,
  the PC at the start of the step and the instruction's bytes or the bus byte (R507). Safe: the spec's own. -/
  | unimplemented (reason : UnimplementedReason) (pc0 : Word) (bytes : List Byte)
  /-- Code 3, raised by a fetch, read or write at an address at or above MEM_SIZE: the first such address, the kind
  of the access and the PC at the start of the step (R508). Safe: the spec's own. -/
  | memoryFault (addr : Word) (kind : AccessKind) (pc0 : Word)
  deriving DecidableEq, Repr

/-- Why the model has no meaning for an instruction. -/
inductive Refusal where
  /-- Answered by an arm of `exec` whose instruction has no meaning yet; no arm does so now. Safe: the model stops. -/
  | notModelled (mnemonic : String)
  deriving DecidableEq, Repr

/-! ### The inputs and the outcomes of a step -/

/-- The input lines, sampled once at the start of a step (60_exceptions.md R501). -/
structure Inputs where
  /-- The RESET line is asserted for this step. -/
  reset : Bool
  /-- A falling edge of /NMI occurred since the previous step. -/
  nmiEdge : Bool
  /-- The level of /INT: a device requests a maskable interrupt. -/
  intReq : Bool
  /-- The byte the interrupting device places on the data bus at the acknowledge. -/
  busByte : Byte
  deriving DecidableEq, Repr

/-- All input lines at 0. -/
def Inputs.quiet : Inputs := { reset := false, nmiEdge := false, intReq := false, busByte := 0 }

/-- The outcome of a step (60_exceptions.md R503). -/
inductive StepOutcome where
  | executed (i : Instr)
  | idle
  | nmiTaken
  | intTaken
  | reset
  | illegalInstruction
  | unimplemented
  | memoryFault
  | stuck
  deriving DecidableEq, Repr

/-! ### The state -/

/-- `run_state` (10_state.md R57). -/
inductive RunState where
  | running
  | halted
  | faulted (record : Fault)
  deriving DecidableEq, Repr

/-- The interrupt mode `IM` (10_state.md R58). -/
inductive IntMode where
  | im0 | im1 | im2
  deriving DecidableEq, Repr

/-- The memory buffer (20_memory.md R80): its capacity MEM_SIZE, fixed when the core is built (00_scope.md R6), and
its contents in one canonical form. An address that is not listed reads as 0, the value of a byte the builder was
not told to load (70_reset_and_hazards.md R550). -/
structure Memory where
  size : Nat
  cells : List Host.Cell
  deriving DecidableEq, Repr

/-- The state of the core (10_state.md R30). A primed name is the shadow register. The last two fields are the
model's own: the schedule of input lines the host drives, and the outcome of the last step. -/
structure State where
  a : Byte
  f : Byte
  b : Byte
  c : Byte
  d : Byte
  e : Byte
  h : Byte
  l : Byte
  a' : Byte
  f' : Byte
  b' : Byte
  c' : Byte
  d' : Byte
  e' : Byte
  h' : Byte
  l' : Byte
  ix : Word
  iy : Word
  sp : Word
  pc : Word
  /-- The interrupt vector register I (R54). -/
  i : Byte
  /-- The memory refresh register R (R55). -/
  r : Byte
  iff1 : Bool
  iff2 : Bool
  im : IntMode
  run : RunState
  eiShadow : Bool
  nmiPending : Bool
  mem : Memory
  /-- The model's own: what the host drives on the input lines, one entry for each of the coming steps; after the
  last entry every line is 0 (R501, R502). -/
  inputs : List Inputs
  /-- The model's own: the outcome the last step returned (R503); none before the first step. -/
  outcome : Option StepOutcome
  deriving DecidableEq, Repr

/-- The construction state, which is also what RESET makes of it: every register 0, IFF1 = IFF2 = false, IM = 0,
Running, every byte of memory 0 (10_state.md R30; 70_reset_and_hazards.md R550, R552, R560). -/
def State.reset : State where
  a := 0
  f := 0
  b := 0
  c := 0
  d := 0
  e := 0
  h := 0
  l := 0
  a' := 0
  f' := 0
  b' := 0
  c' := 0
  d' := 0
  e' := 0
  h' := 0
  l' := 0
  ix := 0
  iy := 0
  sp := 0
  pc := Config.resetVector
  i := 0
  r := 0
  iff1 := false
  iff2 := false
  im := .im0
  run := .running
  eiShadow := false
  nmiPending := false
  mem := { size := Config.memSize, cells := [] }
  inputs := []
  outcome := none

end Sys2Proof.Machine
end

