-- ==== Sys2Proof/Machine/Ops.lean ====
section
/-! DEFINITION. The shared operations: memory, registers and their views, the stack, the step frame every
instruction runs inside, raising a fault, entering an interrupt handler and returning from it. -/

namespace Sys2Proof.Machine

/-- The three outcomes of a step of this machine. -/
abbrev Outcome := Host.Outcome State Fault Refusal

/-! ### Memory (20_memory.md R80 to R88) -/

/-- The byte a list of cells holds at an address; an unlisted address reads as 0 (R80; 10_state.md R30). -/
def lookupCell : List Host.Cell → Nat → Byte
  | [], _ => 0
  | (k, v) :: rest, a => if k = a then v else lookupCell rest a

/-- Insert a cell before the first cell of a greater address. -/
def insertCell (a : Nat) (v : Byte) : List Host.Cell → List Host.Cell
  | [] => [(a, v)]
  | (k, w) :: rest => if a < k then (a, v) :: (k, w) :: rest else (k, w) :: insertCell a v rest

/-- The byte at an address of the buffer. -/
def Memory.get (m : Memory) (a : Nat) : Byte := lookupCell m.cells a

/-- The buffer with one byte changed. A byte that becomes 0 is no longer listed. -/
def Memory.set (m : Memory) (a : Nat) (v : Byte) : Memory :=
  let rest := m.cells.filter (fun cell => cell.1 != a)
  { m with cells := if v = 0 then rest else insertCell a v rest }

/-- Addresses strictly rising. -/
def cellsSorted : List Host.Cell → Bool
  | [] => true
  | [_] => true
  | (a, _) :: (b, w) :: rest => decide (a < b) && cellsSorted ((b, w) :: rest)

/-- The canonical form: a capacity of 1..65536 (00_scope.md R6), addresses strictly rising and inside the buffer, no
cell equal to what an unlisted address reads as. -/
def Memory.wf (m : Memory) : Bool :=
  decide (1 ≤ m.size) && decide (m.size ≤ 65536) && cellsSorted m.cells
    && m.cells.all (fun cell => decide (cell.1 < m.size) && cell.2 != 0)

/-- The first access of a step that was out of range: its address and kind (60_exceptions.md R504). -/
structure MemError where
  addr : Word
  kind : AccessKind
  deriving DecidableEq, Repr

/-- A computation that can raise MemoryFault. -/
abbrev Exec (α : Type) := Except MemError α

/-- `MemRead(addr, 1)` (R82). -/
def State.readByte (s : State) (a : Word) : Exec Byte :=
  if s.mem.size ≤ a.toNat then .error { addr := a, kind := .read } else .ok (s.mem.get a.toNat)

/-- `MemWrite(addr, 1, v)` (R83). -/
def State.writeByte (s : State) (a : Word) (v : Byte) : Exec State :=
  if s.mem.size ≤ a.toNat then .error { addr := a, kind := .write }
  else .ok { s with mem := s.mem.set a.toNat v }

/-- `MemRead(addr, 2)`: the low byte first, the high byte at (addr + 1) mod 65536 (R85). -/
def State.readWord (s : State) (a : Word) : Exec Word := do
  let lo ← s.readByte a
  let hi ← s.readByte (a + 1)
  return promote hi lo

/-- `MemWrite(addr, 2, v)`: the low byte first, the high byte at (addr + 1) mod 65536 (R85). -/
def State.writeWord (s : State) (a v : Word) : Exec State := do
  let s ← s.writeByte a (loByte v)
  s.writeByte (a + 1) (hiByte v)

/-! ### Registers and composite views (10_state.md R31 to R37) -/

def State.af (s : State) : Word := promote s.a s.f
def State.bc (s : State) : Word := promote s.b s.c
def State.de (s : State) : Word := promote s.d s.e
def State.hl (s : State) : Word := promote s.h s.l

/-! The views of the shadow pairs (R32). -/

def State.af' (s : State) : Word := promote s.a' s.f'
def State.bc' (s : State) : Word := promote s.b' s.c'
def State.de' (s : State) : Word := promote s.d' s.e'
def State.hl' (s : State) : Word := promote s.h' s.l'

def State.setAF (s : State) (v : Word) : State := { s with a := hiByte v, f := loByte v }
def State.setBC (s : State) (v : Word) : State := { s with b := hiByte v, c := loByte v }
def State.setDE (s : State) (v : Word) : State := { s with d := hiByte v, e := loByte v }
def State.setHL (s : State) (v : Word) : State := { s with h := hiByte v, l := loByte v }

def State.setAF' (s : State) (v : Word) : State := { s with a' := hiByte v, f' := loByte v }
def State.setBC' (s : State) (v : Word) : State := { s with b' := hiByte v, c' := loByte v }
def State.setDE' (s : State) (v : Word) : State := { s with d' := hiByte v, e' := loByte v }
def State.setHL' (s : State) (v : Word) : State := { s with h' := hiByte v, l' := loByte v }

/-- `reg8[f]` (R35). -/
def State.reg8 (s : State) : Reg8 → Byte
  | .b => s.b
  | .c => s.c
  | .d => s.d
  | .e => s.e
  | .h => s.h
  | .l => s.l
  | .a => s.a

/-- `reg8[f] <- v` (R35). -/
def State.setReg8 (s : State) (r : Reg8) (v : Byte) : State :=
  match r with
  | .b => { s with b := v }
  | .c => { s with c := v }
  | .d => { s with d := v }
  | .e => { s with e := v }
  | .h => { s with h := v }
  | .l => { s with l := v }
  | .a => { s with a := v }

/-- `pair16[ss]` (R36; 41_alu16.md R259). -/
def State.pair (s : State) : Pair → Word
  | .bc => s.bc
  | .de => s.de
  | .hl => s.hl
  | .sp => s.sp

/-- `pair16[ss] <- v` (R36). -/
def State.setPair (s : State) (p : Pair) (v : Word) : State :=
  match p with
  | .bc => s.setBC v
  | .de => s.setDE v
  | .hl => s.setHL v
  | .sp => { s with sp := v }

/-- `pair16q[qq]` (R37; 45_load.md R400). -/
def State.pairQ (s : State) : PairQ → Word
  | .bc => s.bc
  | .de => s.de
  | .hl => s.hl
  | .af => s.af

/-- `pair16q[qq] <- v` (R37; 45_load.md R400). -/
def State.setPairQ (s : State) (p : PairQ) (v : Word) : State :=
  match p with
  | .bc => s.setBC v
  | .de => s.setDE v
  | .hl => s.setHL v
  | .af => s.setAF v

/-- `IXY`: IX or IY (30_encoding.md R130). -/
def State.index (s : State) : IndexReg → Word
  | .ix => s.ix
  | .iy => s.iy

/-- `IXY <- v`. -/
def State.setIndex (s : State) (x : IndexReg) (v : Word) : State :=
  match x with
  | .ix => { s with ix := v }
  | .iy => { s with iy := v }

/-- `pair16_IX[pp]` and `pair16_IY[rr]`: the value 10 reads the index register (41_alu16.md R259). -/
def State.pairX (s : State) (x : IndexReg) : PairX → Word
  | .bc => s.bc
  | .de => s.de
  | .xy => s.index x
  | .sp => s.sp

/-- Write flags (10_state.md R49). -/
def State.flags (s : State) (e : FlagEffect) : State := { s with f := setFlags s.f e }

/-- `IncR(k)` on a value of R: bit 7 kept, bits 6:0 count modulo 128 (10_state.md R55). -/
def incR (k : Nat) (r : Byte) : Byte :=
  BitVec.ofNat 8 (r.toNat / 128 * 128 + (r.toNat % 128 + k) % 128)

/-! ### Addresses (20_memory.md R81, R92, R93) -/

/-- Wrap an integer modulo MEM_SIZE (R81 point 1). -/
def State.wrap (s : State) (v : Int) : Word := BitVec.ofInt 16 (v % (s.mem.size : Int))

/-- `EA_IXY(d) = (IXY + sext_16(d)) mod MEM_SIZE` (R93). -/
def State.ea (s : State) (x : IndexReg) (d : Byte) : Word := s.wrap ((s.index x).toNat + sext d)

/-- The target of JR and DJNZ, `(next + sext_16(e)) mod MEM_SIZE`; in the step frame PC holds `next`
(46_jump_call_return.md R423). -/
def State.relTarget (s : State) (e : Byte) : Word := s.wrap (s.pc.toNat + sext e)

/-- `(PC0 + k) mod MEM_SIZE`: the next PC and the address of an instruction's k-th byte (R81; 30_encoding.md R112,
R113). -/
def State.pcPlus (s : State) (k : Nat) : Word := s.wrap (s.pc.toNat + k)

/-! ### The stack (20_memory.md R90, R91) -/

/-- `Push16(v)`: the high byte at SP - 1, then the low byte at SP - 2 (R90). -/
def State.push16 (s : State) (v : Word) : Exec State := do
  let s := { s with sp := s.sp - 1 }
  let s ← s.writeByte s.sp (hiByte v)
  let s := { s with sp := s.sp - 1 }
  s.writeByte s.sp (loByte v)

/-- `Pop16()`: the low byte at SP, then the high byte at SP + 1 (R91). -/
def State.pop16 (s : State) : Exec (Word × State) := do
  let lo ← s.readByte s.sp
  let s := { s with sp := s.sp + 1 }
  let hi ← s.readByte s.sp
  let s := { s with sp := s.sp + 1 }
  return (promote hi lo, s)

/-! ### Faults (60_exceptions.md R504, R505) -/

/-- `raise(code, info)` on the state saved at the start of the step: run_state becomes Faulted and nothing else
changes (R505). -/
def State.raise (saved : State) (record : Fault) : State := { saved with run := .faulted record }

/-- The fault record of an access that was out of range in a step that started at `pc0` (R504). -/
def MemError.fault (e : MemError) (pc0 : Word) : Fault := .memoryFault e.addr e.kind pc0

/-- The numeric code of a fault record (R503, R504). -/
def Fault.code : Fault → Nat
  | .illegalInstruction .. => 1
  | .unimplemented .. => 2
  | .memoryFault .. => 3

/-- The outcome a fault is returned as (R503). -/
def Fault.outcome : Fault → StepOutcome
  | .illegalInstruction .. => .illegalInstruction
  | .unimplemented .. => .unimplemented
  | .memoryFault .. => .memoryFault

/-- The numeric code of an outcome (R503). -/
def StepOutcome.code : StepOutcome → Nat
  | .executed _ | .idle | .nmiTaken | .intTaken | .reset => 0
  | .illegalInstruction => 1
  | .unimplemented => 2
  | .memoryFault => 3
  | .stuck => 4

/-! ### The step frame (30_encoding.md R113) -/

/-- `PC0 <- PC; IncR(m1); PC <- next`, the part of the frame before `Execute` (R113). -/
def State.begin (s : State) (i : Instr) : State :=
  { s with r := incR i.m1 s.r, pc := s.pcPlus i.length }

/-- The step frame (R113) of an instruction with the body `Execute(inst)`. A MemoryFault of the body undoes the step
(60_exceptions.md R505). -/
def frame (i : Instr) (s : State) (body : State → Exec State) : Outcome :=
  match body (s.begin i) with
  | .ok t => .next { t with eiShadow := i.isEi }
  | .error e => .next (s.raise (e.fault s.pc))

/-- The frame of an instruction that accesses no memory. -/
def frameReg (i : Instr) (s : State) (body : State → State) : Outcome :=
  frame i s (fun t => .ok (body t))

/-- Every I/O instruction: Unimplemented(IoNotInCore, PC0, bytes), raised before IncR (R113; 48_io.md R480). -/
def raiseIo (i : Instr) (s : State) : Outcome :=
  .next (s.raise (.unimplemented .ioNotInCore s.pc (encode i)))

/-! ### Interrupt entry and return (60_exceptions.md R515, R520, R522, R525) -/

/-- What every transfer to a handler does (R522): IFF1 cleared, Running, one M1 cycle counted, PC pushed, PC at the
handler. The handler's address is computed after the push, since the IM 2 vector read follows it (R521). -/
def State.enterHandler (s : State) (vector : State → Exec Word) : Exec State := do
  let s := { s with iff1 := false, run := .running, r := incR 1 s.r }
  let s ← s.push16 s.pc
  let target ← vector s
  return { s with pc := target }

/-- What RETI and RETN do: PC popped, IFF1 restored from IFF2, which keeps its value (R525). -/
def State.returnFromHandler (s : State) : Exec State := do
  let (target, s) ← s.pop16
  return { s with pc := target, iff1 := s.iff2 }

end Sys2Proof.Machine
end

