-- ==== Sys2Proof/Machine/Operands.lean ====
section
/-! DEFINITION. The 8-bit operand forms (20_memory.md R94; 40_alu8.md R200) and the shapes the families share: an ALU
operation on A, a read-modify-write of a location, a 16-bit addition. -/

namespace Sys2Proof.Machine

/-- The operand forms of an 8-bit location: a register, (HL), (IX+d), (IY+d) (R94). -/
inductive Operand8 where
  | reg (r : Reg8)
  | hl
  | idx (x : IndexReg) (d : Byte)
  deriving DecidableEq, Repr

/-- A resolved location (R94). -/
inductive Loc where
  | reg (r : Reg8)
  | mem (a : Word)
  deriving DecidableEq, Repr

/-- `loc8(field, prefix, d)` (R94). -/
def State.loc8 (s : State) : Operand8 → Loc
  | .reg r => .reg r
  | .hl => .mem s.hl
  | .idx x d => .mem (s.ea x d)

/-- `ReadLoc` (R94). -/
def State.readLoc (s : State) : Loc → Exec Byte
  | .reg r => .ok (s.reg8 r)
  | .mem a => s.readByte a

/-- `WriteLoc` (R94). -/
def State.writeLoc (s : State) (l : Loc) (v : Byte) : Exec State :=
  match l with
  | .reg r => .ok (s.setReg8 r v)
  | .mem a => s.writeByte a v

/-! ### ALU operations on A (40_alu8.md R201 to R208) -/

/-- ADD A,s (R201). -/
def State.aluAdd (s : State) (v : Byte) : State :=
  let x := add8 s.a v false
  { s with a := x.r, f := setFlags s.f (arithEffect x false) }

/-- ADC A,s (R202). -/
def State.aluAdc (s : State) (v : Byte) : State :=
  let x := add8 s.a v (flagC s.f)
  { s with a := x.r, f := setFlags s.f (arithEffect x false) }

/-- SUB s (R203). -/
def State.aluSub (s : State) (v : Byte) : State :=
  let x := sub8 s.a v false
  { s with a := x.r, f := setFlags s.f (arithEffect x true) }

/-- SBC A,s (R204). -/
def State.aluSbc (s : State) (v : Byte) : State :=
  let x := sub8 s.a v (flagC s.f)
  { s with a := x.r, f := setFlags s.f (arithEffect x true) }

/-- AND s (R205). -/
def State.aluAnd (s : State) (v : Byte) : State :=
  let r := s.a &&& v
  { s with a := r, f := setFlags s.f (logicEffect r true) }

/-- XOR s (R206). -/
def State.aluXor (s : State) (v : Byte) : State :=
  let r := s.a ^^^ v
  { s with a := r, f := setFlags s.f (logicEffect r false) }

/-- OR s (R207). -/
def State.aluOr (s : State) (v : Byte) : State :=
  let r := s.a ||| v
  { s with a := r, f := setFlags s.f (logicEffect r false) }

/-- CP s: the result is discarded (R208). -/
def State.aluCp (s : State) (v : Byte) : State :=
  { s with f := setFlags s.f (arithEffect (sub8 s.a v false) true) }

/-- An ALU operation whose source is a location (R200). -/
def aluLoc (i : Instr) (o : Operand8) (op : State → Byte → State) (s : State) : Outcome :=
  frame i s fun t => do
    let v ← t.readLoc (t.loc8 o)
    return op t v

/-- An ALU operation whose source is the immediate byte (R200). -/
def aluImm (i : Instr) (n : Byte) (op : State → Byte → State) (s : State) : Outcome :=
  frameReg i s fun t => op t n

/-! ### Read-modify-write of a location -/

/-- Read a location, write the result back, then set the flags (R210, R211, R285); `g` gives the result and the flag
effect from the old flags and the byte read. -/
def modifyLoc (i : Instr) (o : Operand8) (g : Byte → Byte → Byte × FlagEffect) (s : State) : Outcome :=
  frame i s fun t => do
    let l := t.loc8 o
    let v ← t.readLoc l
    let res := g t.f v
    let t ← t.writeLoc l res.1
    return t.flags res.2

/-- INC m (40_alu8.md R210). -/
def incByte (_ : Byte) (v : Byte) : Byte × FlagEffect :=
  let x := add8 v 1 false
  (x.r, incDecEffect x false)

/-- DEC m (40_alu8.md R211). -/
def decByte (_ : Byte) (v : Byte) : Byte × FlagEffect :=
  let x := sub8 v 1 false
  (x.r, incDecEffect x true)

/-- A rotate or shift of a location (42_rotate_shift.md R285). -/
def shiftWith (sh : Byte → Bool → Byte × Bool) (f v : Byte) : Byte × FlagEffect :=
  let x := sh v (flagC f)
  (x.1, shiftEffect x.1 x.2)

/-- Rewrite a location with no flag written: SET and RES (43_bit.md R315 to R322). -/
def rewriteLoc (i : Instr) (o : Operand8) (g : Byte → Byte) (s : State) : Outcome :=
  frame i s fun t => do
    let l := t.loc8 o
    let v ← t.readLoc l
    t.writeLoc l (g v)

/-- BIT b of a location: the location is only read (43_bit.md R310 to R312). -/
def testLoc (i : Instr) (b : BitVec 3) (o : Operand8) (s : State) : Outcome :=
  frame i s fun t => do
    let v ← t.readLoc (t.loc8 o)
    return t.flags (bitEffect (v &&& bitMask b))

/-- A rotate of A alone: S, Z, PV preserved (42_rotate_shift.md R280 to R283). -/
def rotateA (i : Instr) (sh : Byte → Bool → Byte × Bool) (s : State) : Outcome :=
  frameReg i s fun t =>
    let x := sh t.a (flagC t.f)
    { t with a := x.1, f := setFlags t.f (accRotateEffect x.2) }

/-! ### Loads and stores -/

/-- Load an 8-bit register from memory (45_load.md R362, R363, R368 to R370). -/
def loadReg (i : Instr) (r : Reg8) (ea : State → Word) (s : State) : Outcome :=
  frame i s fun t => do
    let v ← t.readByte (ea t)
    return t.setReg8 r v

/-- Store a byte to memory (45_load.md R364 to R367, R371 to R373). -/
def storeByte (i : Instr) (ea : State → Word) (v : State → Byte) (s : State) : Outcome :=
  frame i s fun t => t.writeByte (ea t) (v t)

/-- Load a word from an absolute address (45_load.md R387 to R389). -/
def loadWord (i : Instr) (nn : Word) (put : State → Word → State) (s : State) : Outcome :=
  frame i s fun t => do
    let v ← t.readWord nn
    return put t v

/-- Store a word to an absolute address (45_load.md R390 to R392). -/
def storeWord (i : Instr) (nn : Word) (v : State → Word) (s : State) : Outcome :=
  frame i s fun t => t.writeWord nn (v t)

/-- Push a 16-bit register (45_load.md R395, R396). -/
def pushWord (i : Instr) (v : State → Word) (s : State) : Outcome :=
  frame i s fun t => t.push16 (v t)

/-- Pop a 16-bit register (45_load.md R397 to R399). -/
def popWord (i : Instr) (put : State → Word → State) (s : State) : Outcome :=
  frame i s fun t => do
    let (v, t) ← t.pop16
    return put t v

/-- Swap the word at SP with a register: both bytes are read before either is written
(44_exchange_block.md R333, R334). -/
def exchangeTop (i : Instr) (get : State → Word) (put : State → Word → State) (s : State) : Outcome :=
  frame i s fun t => do
    let lo ← t.readByte t.sp
    let hi ← t.readByte (t.sp + 1)
    let old := get t
    let t ← t.writeByte t.sp (loByte old)
    let t ← t.writeByte (t.sp + 1) (hiByte old)
    return put t (promote hi lo)

/-! ### 16-bit arithmetic -/

/-- ADD of 16-bit registers: S, Z, PV preserved (41_alu16.md R250, R253, R254). -/
def addWord (i : Instr) (get : State → Word) (put : State → Word → State) (src : State → Word)
    (s : State) : Outcome :=
  frameReg i s fun t =>
    let x := add16 (get t) (src t) false
    (put t x.r).flags (add16Effect x)

/-! ### Block instructions (44_exchange_block.md R335, R340, R342) -/

/-- `TransferOne(δ)` (R335). -/
def State.transferOne (s : State) (delta : Word) : Exec State := do
  let v ← s.readByte s.hl
  let s ← s.writeByte s.de v
  let s := ((s.setHL (s.hl + delta)).setDE (s.de + delta)).setBC (s.bc - 1)
  return s.flags (transferEffect s.bc)

/-- `CompareOne(δ)`: the state and whether the byte matched (R342). -/
def State.compareOne (s : State) (delta : Word) : Exec (Bool × State) := do
  let v ← s.readByte s.hl
  let x := sub8 s.a v false
  let s := (s.setHL (s.hl + delta)).setBC (s.bc - 1)
  return (x.r == 0, s.flags (searchEffect x s.bc))

/-- `PC <- PC0` when the instruction must repeat (R340). -/
def State.repeatIf (s : State) (again : Bool) (pc0 : Word) : State :=
  if again then { s with pc := pc0 } else s

end Sys2Proof.Machine
end

