-- ==== Sys2Proof/Machine/Alu16.lean ====
section
/-! DEFINITION. 16-bit arithmetic (41_alu16.md R250 to R259). -/

namespace Sys2Proof.Machine

/-- `ADD HL,ss` (R250). -/
def execAddHlSs (ss : Pair) (s : State) : Outcome :=
  addWord (.addHlSs ss) State.hl State.setHL (fun t => t.pair ss) s

/-- `ADC HL,ss` (R251). -/
def execAdcHlSs (ss : Pair) (s : State) : Outcome :=
  frameReg (.adcHlSs ss) s fun t =>
    let x := add16 t.hl (t.pair ss) (flagC t.f)
    (t.setHL x.r).flags (arithEffect x false)

/-- `SBC HL,ss` (R252). -/
def execSbcHlSs (ss : Pair) (s : State) : Outcome :=
  frameReg (.sbcHlSs ss) s fun t =>
    let x := sub16 t.hl (t.pair ss) (flagC t.f)
    (t.setHL x.r).flags (arithEffect x true)

/-- `ADD IX,pp` (R253). -/
def execAddIxPp (pp : PairX) (s : State) : Outcome :=
  addWord (.addIxPp pp) (fun t => t.index .ix) (fun t v => t.setIndex .ix v) (fun t => t.pairX .ix pp) s

/-- `ADD IY,rr` (R254). -/
def execAddIyRr (rr : PairX) (s : State) : Outcome :=
  addWord (.addIyRr rr) (fun t => t.index .iy) (fun t v => t.setIndex .iy v) (fun t => t.pairX .iy rr) s

/-- `INC ss` (R255). -/
def execIncSs (ss : Pair) (s : State) : Outcome :=
  frameReg (.incSs ss) s fun t => t.setPair ss (t.pair ss + 1)

/-- `DEC ss` (R256). -/
def execDecSs (ss : Pair) (s : State) : Outcome :=
  frameReg (.decSs ss) s fun t => t.setPair ss (t.pair ss - 1)

/-- `INC IX` (R257). -/
def execIncIx (s : State) : Outcome :=
  frameReg .incIx s fun t => t.setIndex .ix (t.index .ix + 1)

/-- `DEC IX` (R258). -/
def execDecIx (s : State) : Outcome :=
  frameReg .decIx s fun t => t.setIndex .ix (t.index .ix - 1)

/-- `INC IY` (R257). -/
def execIncIy (s : State) : Outcome :=
  frameReg .incIy s fun t => t.setIndex .iy (t.index .iy + 1)

/-- `DEC IY` (R258). -/
def execDecIy (s : State) : Outcome :=
  frameReg .decIy s fun t => t.setIndex .iy (t.index .iy - 1)

end Sys2Proof.Machine
end

