-- ==== Sys2Proof/Machine/Alu8.lean ====
section
/-! DEFINITION. 8-bit arithmetic and logic (40_alu8.md R200 to R224). -/

namespace Sys2Proof.Machine

/-- `ADD A,r` (R201). -/
def execAddAR (r : Reg8) (s : State) : Outcome :=
  aluLoc (.addAR r) (.reg r) State.aluAdd s

/-- `ADD A,n` (R201). -/
def execAddAN (n : Byte) (s : State) : Outcome :=
  aluImm (.addAN n) n State.aluAdd s

/-- `ADD A,(HL)` (R201). -/
def execAddAHl (s : State) : Outcome :=
  aluLoc .addAHl .hl State.aluAdd s

/-- `ADD A,(IX+d)` (R201). -/
def execAddAIxd (d : Byte) (s : State) : Outcome :=
  aluLoc (.addAIxd d) (.idx .ix d) State.aluAdd s

/-- `ADD A,(IY+d)` (R201). -/
def execAddAIyd (d : Byte) (s : State) : Outcome :=
  aluLoc (.addAIyd d) (.idx .iy d) State.aluAdd s

/-- `ADC A,r` (R202). -/
def execAdcAR (r : Reg8) (s : State) : Outcome :=
  aluLoc (.adcAR r) (.reg r) State.aluAdc s

/-- `ADC A,n` (R202). -/
def execAdcAN (n : Byte) (s : State) : Outcome :=
  aluImm (.adcAN n) n State.aluAdc s

/-- `ADC A,(HL)` (R202). -/
def execAdcAHl (s : State) : Outcome :=
  aluLoc .adcAHl .hl State.aluAdc s

/-- `ADC A,(IX+d)` (R202). -/
def execAdcAIxd (d : Byte) (s : State) : Outcome :=
  aluLoc (.adcAIxd d) (.idx .ix d) State.aluAdc s

/-- `ADC A,(IY+d)` (R202). -/
def execAdcAIyd (d : Byte) (s : State) : Outcome :=
  aluLoc (.adcAIyd d) (.idx .iy d) State.aluAdc s

/-- `SUB r` (R203). -/
def execSubR (r : Reg8) (s : State) : Outcome :=
  aluLoc (.subR r) (.reg r) State.aluSub s

/-- `SUB n` (R203). -/
def execSubN (n : Byte) (s : State) : Outcome :=
  aluImm (.subN n) n State.aluSub s

/-- `SUB (HL)` (R203). -/
def execSubHl (s : State) : Outcome :=
  aluLoc .subHl .hl State.aluSub s

/-- `SUB (IX+d)` (R203). -/
def execSubIxd (d : Byte) (s : State) : Outcome :=
  aluLoc (.subIxd d) (.idx .ix d) State.aluSub s

/-- `SUB (IY+d)` (R203). -/
def execSubIyd (d : Byte) (s : State) : Outcome :=
  aluLoc (.subIyd d) (.idx .iy d) State.aluSub s

/-- `SBC A,r` (R204). -/
def execSbcAR (r : Reg8) (s : State) : Outcome :=
  aluLoc (.sbcAR r) (.reg r) State.aluSbc s

/-- `SBC A,n` (R204). -/
def execSbcAN (n : Byte) (s : State) : Outcome :=
  aluImm (.sbcAN n) n State.aluSbc s

/-- `SBC A,(HL)` (R204). -/
def execSbcAHl (s : State) : Outcome :=
  aluLoc .sbcAHl .hl State.aluSbc s

/-- `SBC A,(IX+d)` (R204). -/
def execSbcAIxd (d : Byte) (s : State) : Outcome :=
  aluLoc (.sbcAIxd d) (.idx .ix d) State.aluSbc s

/-- `SBC A,(IY+d)` (R204). -/
def execSbcAIyd (d : Byte) (s : State) : Outcome :=
  aluLoc (.sbcAIyd d) (.idx .iy d) State.aluSbc s

/-- `AND r` (R205). -/
def execAndR (r : Reg8) (s : State) : Outcome :=
  aluLoc (.andR r) (.reg r) State.aluAnd s

/-- `AND n` (R205). -/
def execAndN (n : Byte) (s : State) : Outcome :=
  aluImm (.andN n) n State.aluAnd s

/-- `AND (HL)` (R205). -/
def execAndHl (s : State) : Outcome :=
  aluLoc .andHl .hl State.aluAnd s

/-- `AND (IX+d)` (R205). -/
def execAndIxd (d : Byte) (s : State) : Outcome :=
  aluLoc (.andIxd d) (.idx .ix d) State.aluAnd s

/-- `AND (IY+d)` (R205). -/
def execAndIyd (d : Byte) (s : State) : Outcome :=
  aluLoc (.andIyd d) (.idx .iy d) State.aluAnd s

/-- `XOR r` (R206). -/
def execXorR (r : Reg8) (s : State) : Outcome :=
  aluLoc (.xorR r) (.reg r) State.aluXor s

/-- `XOR n` (R206). -/
def execXorN (n : Byte) (s : State) : Outcome :=
  aluImm (.xorN n) n State.aluXor s

/-- `XOR (HL)` (R206). -/
def execXorHl (s : State) : Outcome :=
  aluLoc .xorHl .hl State.aluXor s

/-- `XOR (IX+d)` (R206). -/
def execXorIxd (d : Byte) (s : State) : Outcome :=
  aluLoc (.xorIxd d) (.idx .ix d) State.aluXor s

/-- `XOR (IY+d)` (R206). -/
def execXorIyd (d : Byte) (s : State) : Outcome :=
  aluLoc (.xorIyd d) (.idx .iy d) State.aluXor s

/-- `OR r` (R207). -/
def execOrR (r : Reg8) (s : State) : Outcome :=
  aluLoc (.orR r) (.reg r) State.aluOr s

/-- `OR n` (R207). -/
def execOrN (n : Byte) (s : State) : Outcome :=
  aluImm (.orN n) n State.aluOr s

/-- `OR (HL)` (R207). -/
def execOrHl (s : State) : Outcome :=
  aluLoc .orHl .hl State.aluOr s

/-- `OR (IX+d)` (R207). -/
def execOrIxd (d : Byte) (s : State) : Outcome :=
  aluLoc (.orIxd d) (.idx .ix d) State.aluOr s

/-- `OR (IY+d)` (R207). -/
def execOrIyd (d : Byte) (s : State) : Outcome :=
  aluLoc (.orIyd d) (.idx .iy d) State.aluOr s

/-- `CP r` (R208). -/
def execCpR (r : Reg8) (s : State) : Outcome :=
  aluLoc (.cpR r) (.reg r) State.aluCp s

/-- `CP n` (R208). -/
def execCpN (n : Byte) (s : State) : Outcome :=
  aluImm (.cpN n) n State.aluCp s

/-- `CP (HL)` (R208). -/
def execCpHl (s : State) : Outcome :=
  aluLoc .cpHl .hl State.aluCp s

/-- `CP (IX+d)` (R208). -/
def execCpIxd (d : Byte) (s : State) : Outcome :=
  aluLoc (.cpIxd d) (.idx .ix d) State.aluCp s

/-- `CP (IY+d)` (R208). -/
def execCpIyd (d : Byte) (s : State) : Outcome :=
  aluLoc (.cpIyd d) (.idx .iy d) State.aluCp s

/-- `INC r` (R210). -/
def execIncR (r : Reg8) (s : State) : Outcome :=
  modifyLoc (.incR r) (.reg r) incByte s

/-- `INC (HL)` (R210). -/
def execIncHl (s : State) : Outcome :=
  modifyLoc .incHl .hl incByte s

/-- `INC (IX+d)` (R210). -/
def execIncIxd (d : Byte) (s : State) : Outcome :=
  modifyLoc (.incIxd d) (.idx .ix d) incByte s

/-- `INC (IY+d)` (R210). -/
def execIncIyd (d : Byte) (s : State) : Outcome :=
  modifyLoc (.incIyd d) (.idx .iy d) incByte s

/-- `DEC r` (R211). -/
def execDecR (r : Reg8) (s : State) : Outcome :=
  modifyLoc (.decR r) (.reg r) decByte s

/-- `DEC (HL)` (R211). -/
def execDecHl (s : State) : Outcome :=
  modifyLoc .decHl .hl decByte s

/-- `DEC (IX+d)` (R211). -/
def execDecIxd (d : Byte) (s : State) : Outcome :=
  modifyLoc (.decIxd d) (.idx .ix d) decByte s

/-- `DEC (IY+d)` (R211). -/
def execDecIyd (d : Byte) (s : State) : Outcome :=
  modifyLoc (.decIyd d) (.idx .iy d) decByte s

/-- `DAA` (R220). -/
def execDaa (s : State) : Outcome :=
  frameReg .daa s fun t =>
    let x := daaAdjust t.a t.f
    { t with a := x.1, f := setFlags t.f (daaEffect x.1 x.2.1 x.2.2) }

/-- `CPL` (R221). -/
def execCpl (s : State) : Outcome :=
  frameReg .cpl s fun t => { t with a := ~~~t.a, f := setFlags t.f cplEffect }

/-- `CCF` (R223). -/
def execCcf (s : State) : Outcome :=
  frameReg .ccf s fun t => t.flags (ccfEffect (flagC t.f))

/-- `SCF` (R224). -/
def execScf (s : State) : Outcome :=
  frameReg .scf s fun t => t.flags scfEffect

/-- `NEG` (R222). -/
def execNeg (s : State) : Outcome :=
  frameReg .neg s fun t =>
    let x := sub8 0 t.a false
    { t with a := x.r, f := setFlags t.f (arithEffect x true) }

end Sys2Proof.Machine
end

