-- ==== Sys2Proof/Machine/Bit.lean ====
section
/-! DEFINITION. Bit test, set and reset (43_bit.md R310 to R322). -/

namespace Sys2Proof.Machine

/-- `BIT b,r` (R310). -/
def execBitR (b : BitVec 3) (r : Reg8) (s : State) : Outcome :=
  testLoc (.bitR b r) b (.reg r) s

/-- `BIT b,(HL)` (R311). -/
def execBitHl (b : BitVec 3) (s : State) : Outcome :=
  testLoc (.bitHl b) b .hl s

/-- `BIT b,(IX+d)` (R312). -/
def execBitIxd (b : BitVec 3) (d : Byte) (s : State) : Outcome :=
  testLoc (.bitIxd b d) b (.idx .ix d) s

/-- `BIT b,(IY+d)` (R312). -/
def execBitIyd (b : BitVec 3) (d : Byte) (s : State) : Outcome :=
  testLoc (.bitIyd b d) b (.idx .iy d) s

/-- `SET b,r` (R315). -/
def execSetR (b : BitVec 3) (r : Reg8) (s : State) : Outcome :=
  rewriteLoc (.setR b r) (.reg r) (fun v => v ||| bitMask b) s

/-- `SET b,(HL)` (R316). -/
def execSetHl (b : BitVec 3) (s : State) : Outcome :=
  rewriteLoc (.setHl b) .hl (fun v => v ||| bitMask b) s

/-- `SET b,(IX+d)` (R317). -/
def execSetIxd (b : BitVec 3) (d : Byte) (s : State) : Outcome :=
  rewriteLoc (.setIxd b d) (.idx .ix d) (fun v => v ||| bitMask b) s

/-- `SET b,(IY+d)` (R317). -/
def execSetIyd (b : BitVec 3) (d : Byte) (s : State) : Outcome :=
  rewriteLoc (.setIyd b d) (.idx .iy d) (fun v => v ||| bitMask b) s

/-- `RES b,r` (R320). -/
def execResR (b : BitVec 3) (r : Reg8) (s : State) : Outcome :=
  rewriteLoc (.resR b r) (.reg r) (fun v => v &&& ~~~bitMask b) s

/-- `RES b,(HL)` (R321). -/
def execResHl (b : BitVec 3) (s : State) : Outcome :=
  rewriteLoc (.resHl b) .hl (fun v => v &&& ~~~bitMask b) s

/-- `RES b,(IX+d)` (R322). -/
def execResIxd (b : BitVec 3) (d : Byte) (s : State) : Outcome :=
  rewriteLoc (.resIxd b d) (.idx .ix d) (fun v => v &&& ~~~bitMask b) s

/-- `RES b,(IY+d)` (R322). -/
def execResIyd (b : BitVec 3) (d : Byte) (s : State) : Outcome :=
  rewriteLoc (.resIyd b d) (.idx .iy d) (fun v => v &&& ~~~bitMask b) s

end Sys2Proof.Machine
end

