-- ==== Sys2Proof/Machine/Control.lean ====
section
/-! DEFINITION. Jumps, calls and returns (46_jump_call_return.md R420 to R440). -/

namespace Sys2Proof.Machine

/-- Push the return address and jump; in the step frame PC holds `next`, the return address (R430, R431, R440). -/
def State.call (s : State) (target : Word) : Exec State := do
  let s ← s.push16 s.pc
  return { s with pc := target }

/-- `PC <- Pop16()` (R434, R435). -/
def State.returnFromCall (s : State) : Exec State := do
  let (target, s) ← s.pop16
  return { s with pc := target }

/-- The target of RST, `t * 8` (R440; 30_encoding.md R117). -/
def restartTarget (t : BitVec 3) : Word := BitVec.ofNat 16 (t.toNat * 8)

/-- `JP nn` (R421). -/
def execJpNn (nn : Word) (s : State) : Outcome :=
  frameReg (.jpNn nn) s fun t => { t with pc := nn }

/-- `JP cc,nn` (R422). -/
def execJpCcNn (cc : Cond) (nn : Word) (s : State) : Outcome :=
  frameReg (.jpCcNn cc nn) s fun t => if condHolds cc t.f then { t with pc := nn } else t

/-- `JR e` (R423). -/
def execJrE (e : Byte) (s : State) : Outcome :=
  frameReg (.jrE e) s fun t => { t with pc := t.relTarget e }

/-- `JR j,e` (R424). -/
def execJrJE (j : JrCond) (e : Byte) (s : State) : Outcome :=
  frameReg (.jrJE j e) s fun t => if jrCondHolds j t.f then { t with pc := t.relTarget e } else t

/-- `DJNZ e` (R425). -/
def execDjnzE (e : Byte) (s : State) : Outcome :=
  frameReg (.djnzE e) s fun t =>
    let t := { t with b := t.b - 1 }
    if t.b = 0 then t else { t with pc := t.relTarget e }

/-- `JP (HL)` (R426). -/
def execJpHl (s : State) : Outcome :=
  frameReg .jpHl s fun t => { t with pc := t.hl }

/-- `JP (IX)` (R427). -/
def execJpIx (s : State) : Outcome :=
  frameReg .jpIx s fun t => { t with pc := t.index .ix }

/-- `JP (IY)` (R427). -/
def execJpIy (s : State) : Outcome :=
  frameReg .jpIy s fun t => { t with pc := t.index .iy }

/-- `CALL nn` (R430). -/
def execCallNn (nn : Word) (s : State) : Outcome :=
  frame (.callNn nn) s fun t => t.call nn

/-- `CALL cc,nn` (R431). -/
def execCallCcNn (cc : Cond) (nn : Word) (s : State) : Outcome :=
  frame (.callCcNn cc nn) s fun t => if condHolds cc t.f then t.call nn else .ok t

/-- `RET` (R434). -/
def execRet (s : State) : Outcome :=
  frame .ret s State.returnFromCall

/-- `RET cc` (R435). -/
def execRetCc (cc : Cond) (s : State) : Outcome :=
  frame (.retCc cc) s fun t => if condHolds cc t.f then t.returnFromCall else .ok t

/-- `RETI` (R436). -/
def execReti (s : State) : Outcome :=
  frame .reti s State.returnFromHandler

/-- `RETN` (R437). -/
def execRetn (s : State) : Outcome :=
  frame .retn s State.returnFromHandler

/-- `RST t` (R440). -/
def execRstT (t : BitVec 3) (s : State) : Outcome :=
  frame (.rstT t) s fun u => u.call (restartTarget t)

end Sys2Proof.Machine
end

