-- ==== Sys2Proof/Machine/Cpu.lean ====
section
/-! DEFINITION. CPU control (47_cpu_control.md R460 to R468). -/

namespace Sys2Proof.Machine

/-- `NOP` (R460). -/
def execNop (s : State) : Outcome :=
  frameReg .nop s fun t => t

/-- `HALT` (R461). -/
def execHalt (s : State) : Outcome :=
  frameReg .halt s fun t => { t with run := .halted }

/-- `DI` (R462). -/
def execDi (s : State) : Outcome :=
  frameReg .di s fun t => { t with iff1 := false, iff2 := false }

/-- `EI` (R463). -/
def execEi (s : State) : Outcome :=
  frameReg .ei s fun t => { t with iff1 := true, iff2 := true }

/-- `IM 0` (R466). -/
def execIm0 (s : State) : Outcome :=
  frameReg .im0 s fun t => { t with im := .im0 }

/-- `IM 1` (R467). -/
def execIm1 (s : State) : Outcome :=
  frameReg .im1 s fun t => { t with im := .im1 }

/-- `IM 2` (R468). -/
def execIm2 (s : State) : Outcome :=
  frameReg .im2 s fun t => { t with im := .im2 }

end Sys2Proof.Machine
end

