-- ==== Sys2Proof/Machine/Exchange.lean ====
section
/-! DEFINITION. Exchange, block transfer and block search (44_exchange_block.md R330 to R346). -/

namespace Sys2Proof.Machine

/-- `EX DE,HL` (R330). -/
def execExDeHl (s : State) : Outcome :=
  frameReg .exDeHl s fun t => (t.setDE t.hl).setHL t.de

/-- `EXX` (R331): each of BC, DE and HL is swapped with its shadow, through the views of 10_state.md R32. -/
def execExx (s : State) : Outcome :=
  frameReg .exx s fun t =>
    (((((t.setBC t.bc').setDE t.de').setHL t.hl').setBC' t.bc).setDE' t.de).setHL' t.hl

/-- `EX AF,AF'` (R332). -/
def execExAfAf (s : State) : Outcome :=
  frameReg .exAfAf s fun t => (t.setAF t.af').setAF' t.af

/-- `EX (SP),HL` (R333). -/
def execExSpHl (s : State) : Outcome :=
  exchangeTop .exSpHl State.hl State.setHL s

/-- `EX (SP),IX` (R334). -/
def execExSpIx (s : State) : Outcome :=
  exchangeTop .exSpIx (fun t => t.index .ix) (fun t v => t.setIndex .ix v) s

/-- `EX (SP),IY` (R334). -/
def execExSpIy (s : State) : Outcome :=
  exchangeTop .exSpIy (fun t => t.index .iy) (fun t v => t.setIndex .iy v) s

/-- `LDI` (R336). -/
def execLdi (s : State) : Outcome :=
  frame .ldi s fun t => t.transferOne 1

/-- `LDD` (R337). -/
def execLdd (s : State) : Outcome :=
  frame .ldd s fun t => t.transferOne (-1)

/-- `LDIR` (R338). -/
def execLdir (s : State) : Outcome :=
  frame .ldir s fun t => do
    let t ← t.transferOne 1
    return t.repeatIf (t.bc != 0) s.pc

/-- `LDDR` (R339). -/
def execLddr (s : State) : Outcome :=
  frame .lddr s fun t => do
    let t ← t.transferOne (-1)
    return t.repeatIf (t.bc != 0) s.pc

/-- `CPI` (R343). -/
def execCpi (s : State) : Outcome :=
  frame .cpi s fun t => do
    let (_, t) ← t.compareOne 1
    return t

/-- `CPD` (R344). -/
def execCpd (s : State) : Outcome :=
  frame .cpd s fun t => do
    let (_, t) ← t.compareOne (-1)
    return t

/-- `CPIR` (R345). -/
def execCpir (s : State) : Outcome :=
  frame .cpir s fun t => do
    let (found, t) ← t.compareOne 1
    return t.repeatIf (t.bc != 0 && !found) s.pc

/-- `CPDR` (R346). -/
def execCpdr (s : State) : Outcome :=
  frame .cpdr s fun t => do
    let (found, t) ← t.compareOne (-1)
    return t.repeatIf (t.bc != 0 && !found) s.pc

end Sys2Proof.Machine
end

