-- ==== Sys2Proof/Machine/Io.lean ====
section
/-! DEFINITION. Input and output (48_io.md R480 to R493): decoded, and executing one raises Unimplemented. -/

namespace Sys2Proof.Machine

/-- `IN A,(n)` (R481). -/
def execInAN (n : Byte) (s : State) : Outcome :=
  raiseIo (.inAN n) s

/-- `OUT (n),A` (R482). -/
def execOutNA (n : Byte) (s : State) : Outcome :=
  raiseIo (.outNA n) s

/-- `IN r,(C)` (R483). -/
def execInRC (r : Reg8) (s : State) : Outcome :=
  raiseIo (.inRC r) s

/-- `OUT (C),r` (R484). -/
def execOutCR (r : Reg8) (s : State) : Outcome :=
  raiseIo (.outCR r) s

/-- `INI` (R485). -/
def execIni (s : State) : Outcome :=
  raiseIo .ini s

/-- `IND` (R486). -/
def execInd (s : State) : Outcome :=
  raiseIo .ind s

/-- `INIR` (R487). -/
def execInir (s : State) : Outcome :=
  raiseIo .inir s

/-- `INDR` (R488). -/
def execIndr (s : State) : Outcome :=
  raiseIo .indr s

/-- `OUTI` (R489). -/
def execOuti (s : State) : Outcome :=
  raiseIo .outi s

/-- `OUTD` (R490). -/
def execOutd (s : State) : Outcome :=
  raiseIo .outd s

/-- `OTIR` (R491). -/
def execOtir (s : State) : Outcome :=
  raiseIo .otir s

/-- `OTDR` (R492). -/
def execOtdr (s : State) : Outcome :=
  raiseIo .otdr s

end Sys2Proof.Machine
end

