-- ==== Sys2Proof/Machine/Load.lean ====
section
/-! DEFINITION. Loads, stores and the stack (45_load.md R360 to R400). -/

namespace Sys2Proof.Machine

/-- `LD r,r'` (R360). -/
def execLdRR (r : Reg8) (r' : Reg8) (s : State) : Outcome :=
  frameReg (.ldRR r r') s fun t => t.setReg8 r (t.reg8 r')

/-- `LD r,n` (R361). -/
def execLdRN (r : Reg8) (n : Byte) (s : State) : Outcome :=
  frameReg (.ldRN r n) s fun t => t.setReg8 r n

/-- `LD r,(HL)` (R362). -/
def execLdRHl (r : Reg8) (s : State) : Outcome :=
  loadReg (.ldRHl r) r State.hl s

/-- `LD r,(IX+d)` (R363). -/
def execLdRIxd (r : Reg8) (d : Byte) (s : State) : Outcome :=
  loadReg (.ldRIxd r d) r (fun t => t.ea .ix d) s

/-- `LD r,(IY+d)` (R363). -/
def execLdRIyd (r : Reg8) (d : Byte) (s : State) : Outcome :=
  loadReg (.ldRIyd r d) r (fun t => t.ea .iy d) s

/-- `LD (HL),r` (R364). -/
def execLdHlR (r : Reg8) (s : State) : Outcome :=
  storeByte (.ldHlR r) State.hl (fun t => t.reg8 r) s

/-- `LD (IX+d),r` (R365). -/
def execLdIxdR (r : Reg8) (d : Byte) (s : State) : Outcome :=
  storeByte (.ldIxdR r d) (fun t => t.ea .ix d) (fun t => t.reg8 r) s

/-- `LD (IY+d),r` (R365). -/
def execLdIydR (r : Reg8) (d : Byte) (s : State) : Outcome :=
  storeByte (.ldIydR r d) (fun t => t.ea .iy d) (fun t => t.reg8 r) s

/-- `LD (HL),n` (R366). -/
def execLdHlN (n : Byte) (s : State) : Outcome :=
  storeByte (.ldHlN n) State.hl (fun _ => n) s

/-- `LD (IX+d),n` (R367). -/
def execLdIxdN (d : Byte) (n : Byte) (s : State) : Outcome :=
  storeByte (.ldIxdN d n) (fun t => t.ea .ix d) (fun _ => n) s

/-- `LD (IY+d),n` (R367). -/
def execLdIydN (d : Byte) (n : Byte) (s : State) : Outcome :=
  storeByte (.ldIydN d n) (fun t => t.ea .iy d) (fun _ => n) s

/-- `LD A,(BC)` (R368). -/
def execLdABc (s : State) : Outcome :=
  loadReg .ldABc .a State.bc s

/-- `LD A,(DE)` (R369). -/
def execLdADe (s : State) : Outcome :=
  loadReg .ldADe .a State.de s

/-- `LD A,(nn)` (R370). -/
def execLdAMem (nn : Word) (s : State) : Outcome :=
  loadReg (.ldAMem nn) .a (fun _ => nn) s

/-- `LD (BC),A` (R371). -/
def execLdBcA (s : State) : Outcome :=
  storeByte .ldBcA State.bc State.a s

/-- `LD (DE),A` (R372). -/
def execLdDeA (s : State) : Outcome :=
  storeByte .ldDeA State.de State.a s

/-- `LD (nn),A` (R373). -/
def execLdMemA (nn : Word) (s : State) : Outcome :=
  storeByte (.ldMemA nn) (fun _ => nn) State.a s

/-- `LD A,I` (R377). -/
def execLdAI (s : State) : Outcome :=
  frameReg .ldAI s fun t => { t with a := t.i, f := setFlags t.f (loadSpecialEffect t.i t.iff2) }

/-- `LD A,R` (R378). -/
def execLdAR (s : State) : Outcome :=
  frameReg .ldAR s fun t => { t with a := t.r, f := setFlags t.f (loadSpecialEffect t.r t.iff2) }

/-- `LD I,A` (R379). -/
def execLdIA (s : State) : Outcome :=
  frameReg .ldIA s fun t => { t with i := t.a }

/-- `LD R,A` (R380). -/
def execLdRA (s : State) : Outcome :=
  frameReg .ldRA s fun t => { t with r := t.a }

/-- `LD dd,nn` (R385). -/
def execLdDdNn (dd : Pair) (nn : Word) (s : State) : Outcome :=
  frameReg (.ldDdNn dd nn) s fun t => t.setPair dd nn

/-- `LD IX,nn` (R386). -/
def execLdIxNn (nn : Word) (s : State) : Outcome :=
  frameReg (.ldIxNn nn) s fun t => t.setIndex .ix nn

/-- `LD IY,nn` (R386). -/
def execLdIyNn (nn : Word) (s : State) : Outcome :=
  frameReg (.ldIyNn nn) s fun t => t.setIndex .iy nn

/-- `LD HL,(nn)` (R387). -/
def execLdHlMem (nn : Word) (s : State) : Outcome :=
  loadWord (.ldHlMem nn) nn State.setHL s

/-- `LD dd,(nn)` (R388). -/
def execLdDdMem (dd : Pair) (nn : Word) (s : State) : Outcome :=
  loadWord (.ldDdMem dd nn) nn (fun t v => t.setPair dd v) s

/-- `LD IX,(nn)` (R389). -/
def execLdIxMem (nn : Word) (s : State) : Outcome :=
  loadWord (.ldIxMem nn) nn (fun t v => t.setIndex .ix v) s

/-- `LD IY,(nn)` (R389). -/
def execLdIyMem (nn : Word) (s : State) : Outcome :=
  loadWord (.ldIyMem nn) nn (fun t v => t.setIndex .iy v) s

/-- `LD (nn),HL` (R390). -/
def execLdMemHl (nn : Word) (s : State) : Outcome :=
  storeWord (.ldMemHl nn) nn State.hl s

/-- `LD (nn),dd` (R391). -/
def execLdMemDd (dd : Pair) (nn : Word) (s : State) : Outcome :=
  storeWord (.ldMemDd dd nn) nn (fun t => t.pair dd) s

/-- `LD (nn),IX` (R392). -/
def execLdMemIx (nn : Word) (s : State) : Outcome :=
  storeWord (.ldMemIx nn) nn (fun t => t.index .ix) s

/-- `LD (nn),IY` (R392). -/
def execLdMemIy (nn : Word) (s : State) : Outcome :=
  storeWord (.ldMemIy nn) nn (fun t => t.index .iy) s

/-- `LD SP,HL` (R393). -/
def execLdSpHl (s : State) : Outcome :=
  frameReg .ldSpHl s fun t => { t with sp := t.hl }

/-- `LD SP,IX` (R394). -/
def execLdSpIx (s : State) : Outcome :=
  frameReg .ldSpIx s fun t => { t with sp := t.index .ix }

/-- `LD SP,IY` (R394). -/
def execLdSpIy (s : State) : Outcome :=
  frameReg .ldSpIy s fun t => { t with sp := t.index .iy }

/-- `PUSH qq` (R395). -/
def execPushQq (qq : PairQ) (s : State) : Outcome :=
  pushWord (.pushQq qq) (fun t => t.pairQ qq) s

/-- `PUSH IX` (R396). -/
def execPushIx (s : State) : Outcome :=
  pushWord .pushIx (fun t => t.index .ix) s

/-- `PUSH IY` (R396). -/
def execPushIy (s : State) : Outcome :=
  pushWord .pushIy (fun t => t.index .iy) s

/-- `POP qq` (R397). -/
def execPopQq (qq : PairQ) (s : State) : Outcome :=
  popWord (.popQq qq) (fun t v => t.setPairQ qq v) s

/-- `POP AF` (R398). -/
def execPopAf (s : State) : Outcome :=
  popWord .popAf State.setAF s

/-- `POP IX` (R399). -/
def execPopIx (s : State) : Outcome :=
  popWord .popIx (fun t v => t.setIndex .ix v) s

/-- `POP IY` (R399). -/
def execPopIy (s : State) : Outcome :=
  popWord .popIy (fun t v => t.setIndex .iy v) s

end Sys2Proof.Machine
end

