-- ==== Sys2Proof/Machine/Rotate.lean ====
section
/-! DEFINITION. Rotate and shift (42_rotate_shift.md R280 to R296). -/

namespace Sys2Proof.Machine

/-- The byte RLD writes to memory: `t[3:0] : A[3:0]` (R295). -/
def rldMem (a m : Byte) : Byte := (m <<< 4) ||| (a &&& 0x0F#8)

/-- The new A of RLD: `A[7:4] : t[7:4]` (R295). -/
def rldAcc (a m : Byte) : Byte := (a &&& 0xF0#8) ||| (m >>> 4)

/-- The byte RRD writes to memory: `A[3:0] : t[7:4]` (R296). -/
def rrdMem (a m : Byte) : Byte := (a <<< 4) ||| (m >>> 4)

/-- The new A of RRD: `A[7:4] : t[3:0]` (R296). -/
def rrdAcc (a m : Byte) : Byte := (a &&& 0xF0#8) ||| (m &&& 0x0F#8)

/-- `RLCA` (R280). -/
def execRlca (s : State) : Outcome :=
  rotateA .rlca shiftRLC s

/-- `RRCA` (R281). -/
def execRrca (s : State) : Outcome :=
  rotateA .rrca shiftRRC s

/-- `RLA` (R282). -/
def execRla (s : State) : Outcome :=
  rotateA .rla shiftRL s

/-- `RRA` (R283). -/
def execRra (s : State) : Outcome :=
  rotateA .rra shiftRR s

/-- `RLC r` (R286). -/
def execRlcR (r : Reg8) (s : State) : Outcome :=
  modifyLoc (.rlcR r) (.reg r) (shiftWith shiftRLC) s

/-- `RLC (HL)` (R286). -/
def execRlcHl (s : State) : Outcome :=
  modifyLoc .rlcHl .hl (shiftWith shiftRLC) s

/-- `RLC (IX+d)` (R286). -/
def execRlcIxd (d : Byte) (s : State) : Outcome :=
  modifyLoc (.rlcIxd d) (.idx .ix d) (shiftWith shiftRLC) s

/-- `RLC (IY+d)` (R286). -/
def execRlcIyd (d : Byte) (s : State) : Outcome :=
  modifyLoc (.rlcIyd d) (.idx .iy d) (shiftWith shiftRLC) s

/-- `RRC r` (R287). -/
def execRrcR (r : Reg8) (s : State) : Outcome :=
  modifyLoc (.rrcR r) (.reg r) (shiftWith shiftRRC) s

/-- `RRC (HL)` (R287). -/
def execRrcHl (s : State) : Outcome :=
  modifyLoc .rrcHl .hl (shiftWith shiftRRC) s

/-- `RRC (IX+d)` (R287). -/
def execRrcIxd (d : Byte) (s : State) : Outcome :=
  modifyLoc (.rrcIxd d) (.idx .ix d) (shiftWith shiftRRC) s

/-- `RRC (IY+d)` (R287). -/
def execRrcIyd (d : Byte) (s : State) : Outcome :=
  modifyLoc (.rrcIyd d) (.idx .iy d) (shiftWith shiftRRC) s

/-- `RL r` (R288). -/
def execRlR (r : Reg8) (s : State) : Outcome :=
  modifyLoc (.rlR r) (.reg r) (shiftWith shiftRL) s

/-- `RL (HL)` (R288). -/
def execRlHl (s : State) : Outcome :=
  modifyLoc .rlHl .hl (shiftWith shiftRL) s

/-- `RL (IX+d)` (R288). -/
def execRlIxd (d : Byte) (s : State) : Outcome :=
  modifyLoc (.rlIxd d) (.idx .ix d) (shiftWith shiftRL) s

/-- `RL (IY+d)` (R288). -/
def execRlIyd (d : Byte) (s : State) : Outcome :=
  modifyLoc (.rlIyd d) (.idx .iy d) (shiftWith shiftRL) s

/-- `RR r` (R289). -/
def execRrR (r : Reg8) (s : State) : Outcome :=
  modifyLoc (.rrR r) (.reg r) (shiftWith shiftRR) s

/-- `RR (HL)` (R289). -/
def execRrHl (s : State) : Outcome :=
  modifyLoc .rrHl .hl (shiftWith shiftRR) s

/-- `RR (IX+d)` (R289). -/
def execRrIxd (d : Byte) (s : State) : Outcome :=
  modifyLoc (.rrIxd d) (.idx .ix d) (shiftWith shiftRR) s

/-- `RR (IY+d)` (R289). -/
def execRrIyd (d : Byte) (s : State) : Outcome :=
  modifyLoc (.rrIyd d) (.idx .iy d) (shiftWith shiftRR) s

/-- `SLA r` (R290). -/
def execSlaR (r : Reg8) (s : State) : Outcome :=
  modifyLoc (.slaR r) (.reg r) (shiftWith shiftSLA) s

/-- `SLA (HL)` (R290). -/
def execSlaHl (s : State) : Outcome :=
  modifyLoc .slaHl .hl (shiftWith shiftSLA) s

/-- `SLA (IX+d)` (R290). -/
def execSlaIxd (d : Byte) (s : State) : Outcome :=
  modifyLoc (.slaIxd d) (.idx .ix d) (shiftWith shiftSLA) s

/-- `SLA (IY+d)` (R290). -/
def execSlaIyd (d : Byte) (s : State) : Outcome :=
  modifyLoc (.slaIyd d) (.idx .iy d) (shiftWith shiftSLA) s

/-- `SRA r` (R291). -/
def execSraR (r : Reg8) (s : State) : Outcome :=
  modifyLoc (.sraR r) (.reg r) (shiftWith shiftSRA) s

/-- `SRA (HL)` (R291). -/
def execSraHl (s : State) : Outcome :=
  modifyLoc .sraHl .hl (shiftWith shiftSRA) s

/-- `SRA (IX+d)` (R291). -/
def execSraIxd (d : Byte) (s : State) : Outcome :=
  modifyLoc (.sraIxd d) (.idx .ix d) (shiftWith shiftSRA) s

/-- `SRA (IY+d)` (R291). -/
def execSraIyd (d : Byte) (s : State) : Outcome :=
  modifyLoc (.sraIyd d) (.idx .iy d) (shiftWith shiftSRA) s

/-- `SRL r` (R292). -/
def execSrlR (r : Reg8) (s : State) : Outcome :=
  modifyLoc (.srlR r) (.reg r) (shiftWith shiftSRL) s

/-- `SRL (HL)` (R292). -/
def execSrlHl (s : State) : Outcome :=
  modifyLoc .srlHl .hl (shiftWith shiftSRL) s

/-- `SRL (IX+d)` (R292). -/
def execSrlIxd (d : Byte) (s : State) : Outcome :=
  modifyLoc (.srlIxd d) (.idx .ix d) (shiftWith shiftSRL) s

/-- `SRL (IY+d)` (R292). -/
def execSrlIyd (d : Byte) (s : State) : Outcome :=
  modifyLoc (.srlIyd d) (.idx .iy d) (shiftWith shiftSRL) s

/-- `RLD` (R295). -/
def execRld (s : State) : Outcome :=
  frame .rld s fun t => do
    let m ← t.readByte t.hl
    let t' ← t.writeByte t.hl (rldMem t.a m)
    return { t' with a := rldAcc t.a m, f := setFlags t.f (nibbleEffect (rldAcc t.a m)) }

/-- `RRD` (R296). -/
def execRrd (s : State) : Outcome :=
  frame .rrd s fun t => do
    let m ← t.readByte t.hl
    let t' ← t.writeByte t.hl (rrdMem t.a m)
    return { t' with a := rrdAcc t.a m, f := setFlags t.f (nibbleEffect (rrdAcc t.a m)) }

end Sys2Proof.Machine
end

