-- ==== Sys2Proof/Machine/Interrupt.lean ====
section
/-! DEFINITION. What a step does when it runs no instruction: the NMI and INT responses (60_exceptions.md R515 to
R522), RESET (70_reset_and_hazards.md R552) and the halted idle step (47_cpu_control.md R461). -/

namespace Sys2Proof.Machine

/-- `NmiResponse()` (60_exceptions.md R515): IFF2 keeps the IFF1 of the interrupted program. -/
def State.nmiResponse (s : State) : Exec State :=
  { s with nmiPending := false, eiShadow := false }.enterHandler (fun _ => .ok Config.nmiVector)

/-- A bus byte of the form 11ttt111, the RST opcodes (R520). -/
def isRstByte (b : Byte) : Bool := (b &&& 0xC7#8) == 0xC7#8

/-- `IM2Vector(bus_byte)`: the word at I : bus_byte, bit 0 not forced to 0 (R521). -/
def State.im2Vector (s : State) (bus : Byte) : Exec Word := s.readWord (promote s.i bus)

/-- The handler's address of an accepted INT (R520). -/
def State.intVector (s : State) (bus : Byte) : Exec Word :=
  match s.im with
  | .im0 => .ok (promote 0 (bus &&& 0x38#8))
  | .im1 => .ok Config.im1Vector
  | .im2 => s.im2Vector bus

/-- An IM 0 acknowledge whose bus byte is no RST opcode (R507, R520). -/
def State.im0Refuses (s : State) (bus : Byte) : Bool := s.im == .im0 && !isRstByte bus

/-- The transfer of `IntResponse(bus_byte)`: both flip-flops cleared and the handler entered (R520). -/
def State.intTransfer (s : State) (bus : Byte) : Exec State :=
  { s with iff2 := false }.enterHandler (fun t => t.intVector bus)

/-- INT acceptance (R519). -/
def State.acceptsInt (s : State) (inp : Inputs) : Bool := inp.intReq && s.iff1 && !s.eiShadow

/-- `ApplyReset()` (70_reset_and_hazards.md R552, R553). -/
def State.applyReset (s : State) : State :=
  { s with
    pc := Config.resetVector, i := 0, r := 0, iff1 := false, iff2 := false, im := .im0
    eiShadow := false, nmiPending := false, run := .running }

/-- `IdleStep()`: the halted core counts a fetch in R (47_cpu_control.md R461). -/
def State.idleStep (s : State) : State := { s with r := incR 1 s.r }

/-- A response that faulted undoes the step (60_exceptions.md R505). -/
def State.respond (saved : State) (response : Exec State) : State :=
  match response with
  | .ok t => t
  | .error e => saved.raise (e.fault saved.pc)

/-- `IntResponse(bus_byte)` of the state saved at the start of the step (R520): Unimplemented(Im0BusByte) is decided
before any effect (R512). -/
def State.intResponse (saved : State) (bus : Byte) : State :=
  if saved.im0Refuses bus then saved.raise (.unimplemented .im0BusByte saved.pc [bus])
  else saved.respond (saved.intTransfer bus)

end Sys2Proof.Machine
end

