-- ==== Sys2Proof/Machine/Cycle.lean ====
section
/-! DEFINITION. One step of the core: the fetch (30_encoding.md R112), the instruction step, and the priority of
RESET, NMI, INT, idle and instruction (60_exceptions.md R510), over the schedule of input lines. -/

namespace Sys2Proof.Machine

/-! ### Fetch -/

/-- The byte at `(PC0 + k) mod MEM_SIZE` (30_encoding.md R112). -/
def State.codeByte (s : State) (k : Nat) : Byte := s.mem.get ((s.pc.toNat + k) % s.mem.size)

/-- The bytes from PC0 on: as many as the longest instruction has. Only the first fetch can fault
(30_encoding.md R112). -/
def State.fetch (s : State) : Exec (List Byte) :=
  if s.mem.size ≤ s.pc.toNat then .error { addr := s.pc, kind := .fetch }
  else .ok [s.codeByte 0, s.codeByte 1, s.codeByte 2, s.codeByte 3]

/-- `InstructionStep()` (30_encoding.md R113): fetch, decode, execute; a fetch fault comes before an illegal
instruction (60_exceptions.md R512). -/
def instructionStep (s : State) : Outcome :=
  match s.fetch with
  | .error e => .next (s.raise (e.fault s.pc))
  | .ok bytes =>
    match decode bytes with
    | .illegal read => .next (s.raise (.illegalInstruction s.pc read))
    | .instr i => exec i s

/-! ### Outcomes -/

/-- The outcome a step reports: the fault's if it faulted, else the normal one (60_exceptions.md R503). -/
def State.report (t : State) (normal : StepOutcome) : State :=
  { t with
    outcome := some (match t.run with
      | .faulted record => record.outcome
      | _ => normal) }

/-- The mnemonic of `Executed(m)`: what the bytes at PC0 decode to (60_exceptions.md R503). -/
def State.executedOutcome (s : State) : StepOutcome :=
  match s.fetch with
  | .error _ => .memoryFault
  | .ok bytes =>
    match decode bytes with
    | .illegal _ => .illegalInstruction
    | .instr i => .executed i

/-- Report an outcome on the state a step answers. -/
def Outcome.reporting (o : Outcome) (normal : StepOutcome) : Outcome :=
  match o with
  | .next t => .next (t.report normal)
  | .fault r => .fault r
  | .refused r => .refused r

/-! ### The step -/

/-- The input lines of the coming step: the head of the schedule, all 0 after its end. -/
def State.nextInputs (s : State) : Inputs := s.inputs.headD Inputs.quiet

/-- The schedule after a step. -/
def State.advanceInputs (s : State) : State := { s with inputs := s.inputs.tail }

/-- `if nmi_edge: nmi_pending <- true` (60_exceptions.md R510, R511). -/
def State.latchNmi (s : State) (inp : Inputs) : State :=
  { s with nmiPending := s.nmiPending || inp.nmiEdge }

/-- Steps 3 to 5 of the priority: INT, idle, instruction (60_exceptions.md R510). -/
def stepBelowNmi (inp : Inputs) (s : State) : Outcome :=
  if s.acceptsInt inp then .next ((s.intResponse inp.busByte).report .intTaken)
  else
    match s.run with
    | .halted => .next (s.idleStep.report .idle)
    | _ => Outcome.reporting (instructionStep s) s.executedOutcome

/-- `Step(reset, nmi_edge, int_req, bus_byte)` (60_exceptions.md R510). -/
def stepWith (inp : Inputs) (s : State) : Outcome :=
  match s.run with
  | .faulted _ => .next { s with outcome := some .stuck }
  | _ =>
    if inp.reset then .next (s.applyReset.report .reset)
    else if (s.latchNmi inp).nmiPending then
      .next ((s.respond (s.latchNmi inp).nmiResponse).report .nmiTaken)
    else stepBelowNmi inp s

/-! ### The outputs of the last step (60_exceptions.md R501) -/

/-- The `halted` output. -/
def State.haltedOutput (s : State) : Bool := s.run == .halted

/-- The `reti` output: the step executed RETI. -/
def State.retiOutput (s : State) : Bool := s.outcome == some (.executed .reti)

/-- The `fault` output: the fault record when the outcome is a fault (not Stuck), absent otherwise. -/
def State.faultOutput (s : State) : Option Fault :=
  match s.run, s.outcome with
  | .faulted record, some o => if o = record.outcome then some record else none
  | _, _ => none

/-! ### Placing an instruction -/

/-- Store bytes at PC, PC + 1, …, modulo MEM_SIZE. -/
def State.placeBytes (s : State) (k : Nat) : List Byte → State
  | [] => s
  | v :: rest =>
    State.placeBytes { s with mem := s.mem.set ((s.pc.toNat + k) % s.mem.size) v } (k + 1) rest

/-- A core that runs an instruction at its next step: Running, no NMI latched, no input scheduled. -/
def State.readyToRun (s : State) : State :=
  { s with run := .running, nmiPending := false, inputs := [] }

end Sys2Proof.Machine
end

