-- ==== Sys2Proof/Machine/Step.lean ====
section
/-! DEFINITION. The step of the machine and the placing of a table word where it fetches. -/

namespace Sys2Proof.Machine

/-- One step: the input lines the host drives for it, then `Step` (60_exceptions.md R500, R510). -/
def step (s : State) : Host.Outcome State Fault Refusal := stepWith s.nextInputs s.advanceInputs

/-- `s` with the instruction of a table word stored where `step` fetches its next instruction, and nothing pending
that would make the next step another than an instruction step (notes/assumptions/10.md). -/
def State.withFetchWord (s : State) (nbits w : Nat) : State :=
  s.readyToRun.placeBytes 0 (tableBytes nbits w)

end Sys2Proof.Machine
end

