-- ==== Sys2Proof/Machine/Build.lean ====
section
/-! DEFINITION. Construction (70_reset_and_hazards.md R550): the builder has one setter per state field and a memory
loader; a field it is not told to set is zero, false or Running. -/

namespace Sys2Proof.Machine

/-- One call of a setter of the builder: a register by the same names as in `State`, or one byte of memory. -/
inductive Setting where
  | reg8 (reg : Reg8) (v : Byte)
  | f (v : Byte)
  | shadow8 (reg : Reg8) (v : Byte)
  | shadowF (v : Byte)
  | ix (v : Word)
  | iy (v : Word)
  | sp (v : Word)
  | pc (v : Word)
  | i (v : Byte)
  | r (v : Byte)
  | iff1 (v : Bool)
  | iff2 (v : Bool)
  | im (v : IntMode)
  | run (v : RunState)
  | eiShadow (v : Bool)
  | nmiPending (v : Bool)
  | byte (a : Word) (v : Byte)
  deriving DecidableEq, Repr

/-- Write a shadow register (10_state.md R38). -/
def State.setShadow8 (s : State) (r : Reg8) (v : Byte) : State :=
  match r with
  | .b => { s with b' := v }
  | .c => { s with c' := v }
  | .d => { s with d' := v }
  | .e => { s with e' := v }
  | .h => { s with h' := v }
  | .l => { s with l' := v }
  | .a => { s with a' := v }

/-- The effect of one setter. -/
def Setting.apply (x : Setting) (s : State) : State :=
  match x with
  | .reg8 reg v => s.setReg8 reg v
  | .f v => { s with f := v }
  | .shadow8 reg v => s.setShadow8 reg v
  | .shadowF v => { s with f' := v }
  | .ix v => { s with ix := v }
  | .iy v => { s with iy := v }
  | .sp v => { s with sp := v }
  | .pc v => { s with pc := v }
  | .i v => { s with i := v }
  | .r v => { s with r := v }
  | .iff1 v => { s with iff1 := v }
  | .iff2 v => { s with iff2 := v }
  | .im v => { s with im := v }
  | .run v => { s with run := v }
  | .eiShadow v => { s with eiShadow := v }
  | .nmiPending v => { s with nmiPending := v }
  | .byte a v => if a.toNat < s.mem.size then { s with mem := s.mem.set a.toNat v } else s

/-- The construction state of a core whose buffer has `memSize` bytes, before any setter; for this hardware
`memSize` is `Config.memSize` (R550; 00_scope.md R6). -/
def State.blank (memSize : Nat) : State := { State.reset with mem := { size := memSize, cells := [] } }

/-- `Build(settings)`: the setters applied in the order they are called, so the last one of a field wins (R550). -/
def build (memSize : Nat) (settings : List Setting) : State :=
  settings.foldl (fun s x => x.apply s) (State.blank memSize)

end Sys2Proof.Machine
end

