-- ==== Sys2Proof/Safety.lean ====
section
/-! DEFINITION. What a well-formed state and a core that still runs are, and the terms the statements are written
in. -/

namespace Sys2Proof.Machine

/-! ### States -/

/-- A state the core can be in: the memory in its canonical form, and IFF1 set only with IFF2 set (the flip-flops
are written together or IFF1 from IFF2, 10_state.md R56). -/
def State.inv (s : State) : Bool := s.mem.wf && (!s.iff1 || s.iff2)

/-- The core has not faulted (60_exceptions.md R505). -/
def State.alive (s : State) : Bool :=
  match s.run with
  | .faulted _ => false
  | _ => true

/-- The next step executes an instruction: the core runs, no RESET is asserted, no NMI is pending or arriving and no
INT is accepted (60_exceptions.md R510). -/
def State.instructionNext (s : State) : Bool :=
  s.run == .running && !s.nextInputs.reset && !s.nmiPending && !s.nextInputs.nmiEdge && !s.acceptsInt s.nextInputs

/-- The bytes the decoder is given: those from PC on, wrapping modulo MEM_SIZE (30_encoding.md R112). -/
def State.codeBytes (s : State) : List Byte := [s.codeByte 0, s.codeByte 1, s.codeByte 2, s.codeByte 3]

/-- The fields 10_state.md R30 names: the model's own two, the schedule of inputs and the last outcome, blanked
(notes/assumptions/4.md and 5.md). -/
def State.arch (s : State) : State := { s with inputs := [], outcome := none }

/-! ### What an instruction does besides its own effect -/

/-- `s` after the step frame alone (30_encoding.md R113): R counts the M1 cycles, PC is `next`, and the EI shadow is
on only after EI. Every other field is that of `s`. -/
def State.after (s : State) (i : Instr) : State :=
  { s with r := incR i.m1 s.r, pc := s.pcPlus i.length, eiShadow := i.isEi }

/-! ### Flags -/

/-- The six named flags (10_state.md R40). -/
structure SixFlags where
  s : Bool
  z : Bool
  h : Bool
  pv : Bool
  n : Bool
  c : Bool
  deriving DecidableEq, Repr

/-- The six flags of a value of F. -/
def sixFlags (f : Byte) : SixFlags :=
  { s := flagS f, z := flagZ f, h := flagH f, pv := flagPV f, n := flagN f, c := flagC f }

/-- F[5] and F[3] are the same in both values of F (10_state.md R41). -/
def sameUnused (f g : Byte) : Prop := flag5 g = flag5 f ∧ flag3 g = flag3 f

/-- The value 1 of a carry flag that is set. -/
def carryNat (f : Byte) : Nat := if flagC f then 1 else 0

/-! ### Accesses -/

/-- The first access, in order, whose address is outside the buffer. -/
def State.firstOutside (s : State) (accesses : List (Word × AccessKind)) : Option (Word × AccessKind) :=
  accesses.find? (fun x => decide (s.mem.size ≤ x.1.toNat))

/-- Executing `i` completes with `P` of the next state when every access is inside the buffer; else it raises
MemoryFault for the first access outside, and that is all (60_exceptions.md R505, R508, R512). -/
def Completes (i : Instr) (s : State) (accesses : List (Word × AccessKind)) (P : State → Prop) : Prop :=
  match s.firstOutside accesses with
  | none => ∃ t, exec i s = .next t ∧ P t
  | some (a, kind) => exec i s = .next (s.raise (.memoryFault a kind s.pc))

/-- Every byte of memory is as before. -/
def sameMemory (s t : State) : Prop := t.mem = s.mem

/-- The byte `v` is stored at `a`; every other byte, and the capacity, is as before. -/
def stores (s t : State) (a : Word) (v : Byte) : Prop :=
  t.mem.size = s.mem.size ∧ ∀ x : Nat, t.mem.get x = if x = a.toNat then v else s.mem.get x

/-- The byte `u` is stored at `a` and the byte `v` at `b`; every other byte, and the capacity, is as before. -/
def stores2 (s t : State) (a : Word) (u : Byte) (b : Word) (v : Byte) : Prop :=
  t.mem.size = s.mem.size ∧
    ∀ x : Nat, t.mem.get x = if x = b.toNat then v else if x = a.toNat then u else s.mem.get x

/-- The address of an 8-bit operand in memory; none for a register (20_memory.md R92 to R94). -/
def State.operandAddress (s : State) : Operand8 → Option Word
  | .reg _ => none
  | .hl => some s.hl
  | .idx x d => some (s.ea x d)

/-- The value of an 8-bit operand. -/
def State.operandValue (s : State) (o : Operand8) : Byte :=
  match o with
  | .reg r => s.reg8 r
  | .hl => s.mem.get s.hl.toNat
  | .idx x d => s.mem.get (s.ea x d).toNat

/-- The byte read that an 8-bit operand takes. -/
def State.operandReads (s : State) (o : Operand8) : List (Word × AccessKind) :=
  match s.operandAddress o with
  | none => []
  | some a => [(a, .read)]

/-- The read and the write that changing an 8-bit operand takes. -/
def State.operandReadsWrites (s : State) (o : Operand8) : List (Word × AccessKind) :=
  match s.operandAddress o with
  | none => []
  | some a => [(a, .read), (a, .write)]

/-- The operand `o` holds `v` after the instruction, every other register of the seven and every other byte of
memory is as in `s`. -/
def holdsOnly (s t : State) (o : Operand8) (v : Byte) : Prop :=
  match s.operandAddress o with
  | none => sameMemory s t ∧ ∀ r, t.reg8 r = if o = .reg r then v else s.reg8 r
  | some a => stores s t a v ∧ ∀ r, t.reg8 r = s.reg8 r

end Sys2Proof.Machine
end

