-- ==== Sys2Proof/Certificates/Slice0/Obligations.lean ====
section
/-! DEFINITION. The statements about the model, and the operand forms they range over. A statement about an
instruction gives its encoding, its whole next state (every field not named is that of `State.after`, the step frame
alone), and the fault it raises when an access is outside the buffer. -/

namespace Sys2Proof.Machine

/-! ### Operand forms -/

/-- The source `s` of the 8-bit ALU instructions (40_alu8.md R200). -/
inductive AluSource where
  | of (o : Operand8)
  | imm (n : Byte)
  deriving DecidableEq, Repr

def AluSource.value (s : State) : AluSource → Byte
  | .of o => s.operandValue o
  | .imm n => n

def AluSource.reads (s : State) : AluSource → List (Word × AccessKind)
  | .of o => s.operandReads o
  | .imm _ => []

/-- The eight ALU operations (30_encoding.md R118). -/
inductive AluOp where
  | add | adc | sub | sbc | and | xor | or | cp
  deriving DecidableEq, Repr

/-- The field `o` in place, `o * 8`. -/
def AluOp.field : AluOp → Byte
  | .add => 0x00#8
  | .adc => 0x08#8
  | .sub => 0x10#8
  | .sbc => 0x18#8
  | .and => 0x20#8
  | .xor => 0x28#8
  | .or => 0x30#8
  | .cp => 0x38#8

def AluOp.instr (op : AluOp) (src : AluSource) : Instr :=
  match op, src with
  | .add, .of (.reg r) => .addAR r
  | .add, .of .hl => .addAHl
  | .add, .of (.idx .ix d) => .addAIxd d
  | .add, .of (.idx .iy d) => .addAIyd d
  | .add, .imm n => .addAN n
  | .adc, .of (.reg r) => .adcAR r
  | .adc, .of .hl => .adcAHl
  | .adc, .of (.idx .ix d) => .adcAIxd d
  | .adc, .of (.idx .iy d) => .adcAIyd d
  | .adc, .imm n => .adcAN n
  | .sub, .of (.reg r) => .subR r
  | .sub, .of .hl => .subHl
  | .sub, .of (.idx .ix d) => .subIxd d
  | .sub, .of (.idx .iy d) => .subIyd d
  | .sub, .imm n => .subN n
  | .sbc, .of (.reg r) => .sbcAR r
  | .sbc, .of .hl => .sbcAHl
  | .sbc, .of (.idx .ix d) => .sbcAIxd d
  | .sbc, .of (.idx .iy d) => .sbcAIyd d
  | .sbc, .imm n => .sbcAN n
  | .and, .of (.reg r) => .andR r
  | .and, .of .hl => .andHl
  | .and, .of (.idx .ix d) => .andIxd d
  | .and, .of (.idx .iy d) => .andIyd d
  | .and, .imm n => .andN n
  | .xor, .of (.reg r) => .xorR r
  | .xor, .of .hl => .xorHl
  | .xor, .of (.idx .ix d) => .xorIxd d
  | .xor, .of (.idx .iy d) => .xorIyd d
  | .xor, .imm n => .xorN n
  | .or, .of (.reg r) => .orR r
  | .or, .of .hl => .orHl
  | .or, .of (.idx .ix d) => .orIxd d
  | .or, .of (.idx .iy d) => .orIyd d
  | .or, .imm n => .orN n
  | .cp, .of (.reg r) => .cpR r
  | .cp, .of .hl => .cpHl
  | .cp, .of (.idx .ix d) => .cpIxd d
  | .cp, .of (.idx .iy d) => .cpIyd d
  | .cp, .imm n => .cpN n

/-- The encoding of R200: 10ooosss; 11ooo110 n; 10ooo110; DD or FD, 10ooo110, d. -/
def AluOp.bytes (op : AluOp) (src : AluSource) : List Byte :=
  match src with
  | .of (.reg r) => [0x80#8 + op.field + r.code]
  | .of .hl => [0x86#8 + op.field]
  | .of (.idx .ix d) => [0xDD#8, 0x86#8 + op.field, d]
  | .of (.idx .iy d) => [0xFD#8, 0x86#8 + op.field, d]
  | .imm n => [0xC6#8 + op.field, n]

/-- INC m (`up`) and DEC m (40_alu8.md R210, R211). -/
def stepByte (up : Bool) (o : Operand8) : Instr :=
  match up, o with
  | true, .reg r => .incR r
  | true, .hl => .incHl
  | true, .idx .ix d => .incIxd d
  | true, .idx .iy d => .incIyd d
  | false, .reg r => .decR r
  | false, .hl => .decHl
  | false, .idx .ix d => .decIxd d
  | false, .idx .iy d => .decIyd d

/-- 00rrr100 and 00rrr101, the field 110 with no prefix byte for (HL), with one and d for (IX+d), (IY+d). -/
def stepByteBytes (up : Bool) (o : Operand8) : List Byte :=
  let z : Byte := if up then 4#8 else 5#8
  match o with
  | .reg r => [8#8 * r.code + z]
  | .hl => [0x30#8 + z]
  | .idx .ix d => [0xDD#8, 0x30#8 + z, d]
  | .idx .iy d => [0xFD#8, 0x30#8 + z, d]

/-- The seven rotates and shifts of the CB table (30_encoding.md R119). -/
inductive ShiftOp where
  | rlc | rrc | rl | rr | sla | sra | srl
  deriving DecidableEq, Repr

/-- The opcode byte 00www110. -/
def ShiftOp.opcode : ShiftOp → Byte
  | .rlc => 0x06#8
  | .rrc => 0x0E#8
  | .rl => 0x16#8
  | .rr => 0x1E#8
  | .sla => 0x26#8
  | .sra => 0x2E#8
  | .srl => 0x3E#8

def ShiftOp.instr (op : ShiftOp) (o : Operand8) : Instr :=
  match op, o with
  | .rlc, .reg r => .rlcR r
  | .rlc, .hl => .rlcHl
  | .rlc, .idx .ix d => .rlcIxd d
  | .rlc, .idx .iy d => .rlcIyd d
  | .rrc, .reg r => .rrcR r
  | .rrc, .hl => .rrcHl
  | .rrc, .idx .ix d => .rrcIxd d
  | .rrc, .idx .iy d => .rrcIyd d
  | .rl, .reg r => .rlR r
  | .rl, .hl => .rlHl
  | .rl, .idx .ix d => .rlIxd d
  | .rl, .idx .iy d => .rlIyd d
  | .rr, .reg r => .rrR r
  | .rr, .hl => .rrHl
  | .rr, .idx .ix d => .rrIxd d
  | .rr, .idx .iy d => .rrIyd d
  | .sla, .reg r => .slaR r
  | .sla, .hl => .slaHl
  | .sla, .idx .ix d => .slaIxd d
  | .sla, .idx .iy d => .slaIyd d
  | .sra, .reg r => .sraR r
  | .sra, .hl => .sraHl
  | .sra, .idx .ix d => .sraIxd d
  | .sra, .idx .iy d => .sraIyd d
  | .srl, .reg r => .srlR r
  | .srl, .hl => .srlHl
  | .srl, .idx .ix d => .srlIxd d
  | .srl, .idx .iy d => .srlIyd d

/-- The encoding of a CB-table operation whose opcode byte with the field 110 is `op` (30_encoding.md R127, R132). -/
def cbBytes (op : Byte) (o : Operand8) : List Byte :=
  match o with
  | .reg r => [0xCB#8, op - 6#8 + r.code]
  | .hl => [0xCB#8, op]
  | .idx .ix d => [0xDD#8, 0xCB#8, d, op]
  | .idx .iy d => [0xFD#8, 0xCB#8, d, op]

/-- The result of each rotate and shift as a number, of the byte `v` and the carry `c` (42_rotate_shift.md R286 to
R292). -/
def ShiftOp.result (op : ShiftOp) (v c : Nat) : Nat :=
  match op with
  | .rlc => 2 * v % 256 + v / 128
  | .rrc => v / 2 + 128 * (v % 2)
  | .rl => 2 * v % 256 + c
  | .rr => v / 2 + 128 * c
  | .sla => 2 * v % 256
  | .sra => v / 2 + 128 * (v / 128)
  | .srl => v / 2

/-- The bit shifted out: bit 7 to the left, bit 0 to the right. -/
def ShiftOp.out (op : ShiftOp) (v : Nat) : Nat :=
  match op with
  | .rlc | .rl | .sla => v / 128
  | .rrc | .rr | .sra | .srl => v % 2

/-- BIT b, RES b and SET b (30_encoding.md R120). -/
inductive BitOp where
  | bit | res | set
  deriving DecidableEq, Repr

def BitOp.instr (op : BitOp) (b : BitVec 3) (o : Operand8) : Instr :=
  match op, o with
  | .bit, .reg r => .bitR b r
  | .bit, .hl => .bitHl b
  | .bit, .idx .ix d => .bitIxd b d
  | .bit, .idx .iy d => .bitIyd b d
  | .res, .reg r => .resR b r
  | .res, .hl => .resHl b
  | .res, .idx .ix d => .resIxd b d
  | .res, .idx .iy d => .resIyd b d
  | .set, .reg r => .setR b r
  | .set, .hl => .setHl b
  | .set, .idx .ix d => .setIxd b d
  | .set, .idx .iy d => .setIyd b d

/-- The opcode byte 01bbb110, 10bbb110 or 11bbb110. -/
def BitOp.opcode (op : BitOp) (b : BitVec 3) : Byte :=
  (match op with
    | .bit => 0x46#8
    | .res => 0x86#8
    | .set => 0xC6#8) + 8#8 * b.zeroExtend 8

/-- The loads of an 8-bit register from memory (45_load.md R362, R363, R368 to R370). -/
inductive LoadForm where
  | hl (r : Reg8)
  | idx (x : IndexReg) (r : Reg8) (d : Byte)
  | bc
  | de
  | abs (nn : Word)
  deriving DecidableEq, Repr

def LoadForm.instr : LoadForm → Instr
  | .hl r => .ldRHl r
  | .idx .ix r d => .ldRIxd r d
  | .idx .iy r d => .ldRIyd r d
  | .bc => .ldABc
  | .de => .ldADe
  | .abs nn => .ldAMem nn

def LoadForm.bytes : LoadForm → List Byte
  | .hl r => [0x46#8 + 8#8 * r.code]
  | .idx .ix r d => [0xDD#8, 0x46#8 + 8#8 * r.code, d]
  | .idx .iy r d => [0xFD#8, 0x46#8 + 8#8 * r.code, d]
  | .bc => [0x0A#8]
  | .de => [0x1A#8]
  | .abs nn => [0x3A#8, loByte nn, hiByte nn]

def LoadForm.dest : LoadForm → Reg8
  | .hl r => r
  | .idx _ r _ => r
  | .bc | .de | .abs _ => .a

def LoadForm.address (s : State) : LoadForm → Word
  | .hl _ => s.hl
  | .idx x _ d => s.ea x d
  | .bc => s.bc
  | .de => s.de
  | .abs nn => nn

/-- The stores of a byte (45_load.md R364 to R367, R371 to R373). -/
inductive StoreForm where
  | hl (r : Reg8)
  | idx (x : IndexReg) (r : Reg8) (d : Byte)
  | hlImm (n : Byte)
  | idxImm (x : IndexReg) (d : Byte) (n : Byte)
  | bc
  | de
  | abs (nn : Word)
  deriving DecidableEq, Repr

def StoreForm.instr : StoreForm → Instr
  | .hl r => .ldHlR r
  | .idx .ix r d => .ldIxdR r d
  | .idx .iy r d => .ldIydR r d
  | .hlImm n => .ldHlN n
  | .idxImm .ix d n => .ldIxdN d n
  | .idxImm .iy d n => .ldIydN d n
  | .bc => .ldBcA
  | .de => .ldDeA
  | .abs nn => .ldMemA nn

def StoreForm.bytes : StoreForm → List Byte
  | .hl r => [0x70#8 + r.code]
  | .idx .ix r d => [0xDD#8, 0x70#8 + r.code, d]
  | .idx .iy r d => [0xFD#8, 0x70#8 + r.code, d]
  | .hlImm n => [0x36#8, n]
  | .idxImm .ix d n => [0xDD#8, 0x36#8, d, n]
  | .idxImm .iy d n => [0xFD#8, 0x36#8, d, n]
  | .bc => [0x02#8]
  | .de => [0x12#8]
  | .abs nn => [0x32#8, loByte nn, hiByte nn]

def StoreForm.address (s : State) : StoreForm → Word
  | .hl _ | .hlImm _ => s.hl
  | .idx x _ d | .idxImm x d _ => s.ea x d
  | .bc => s.bc
  | .de => s.de
  | .abs nn => nn

def StoreForm.value (s : State) : StoreForm → Byte
  | .hl r | .idx _ r _ => s.reg8 r
  | .hlImm n | .idxImm _ _ n => n
  | .bc | .de | .abs _ => s.a

/-- A 16-bit register a word is moved to or from. `ss` is the ED form of LD dd,(nn) and LD (nn),dd. -/
inductive WordReg where
  | hl
  | ss (p : Pair)
  | idx (x : IndexReg)
  deriving DecidableEq, Repr

def WordReg.get (s : State) : WordReg → Word
  | .hl => s.hl
  | .ss p => s.pair p
  | .idx x => s.index x

/-- `u` with the register written. -/
def WordReg.put (u : State) (v : Word) : WordReg → State
  | .hl => u.setHL v
  | .ss p => u.setPair p v
  | .idx x => u.setIndex x v

/-- LD HL,(nn); LD dd,(nn); LD IX,(nn) and LD IY,(nn). -/
def WordReg.load (nn : Word) : WordReg → Instr
  | .hl => .ldHlMem nn
  | .ss p => .ldDdMem p nn
  | .idx .ix => .ldIxMem nn
  | .idx .iy => .ldIyMem nn

/-- LD (nn),HL; LD (nn),dd; LD (nn),IX and LD (nn),IY. -/
def WordReg.store (nn : Word) : WordReg → Instr
  | .hl => .ldMemHl nn
  | .ss p => .ldMemDd p nn
  | .idx .ix => .ldMemIx nn
  | .idx .iy => .ldMemIy nn

def WordReg.loadBytes (nn : Word) : WordReg → List Byte
  | .hl => [0x2A#8, loByte nn, hiByte nn]
  | .ss p => [0xED#8, 0x4B#8 + 16#8 * p.code, loByte nn, hiByte nn]
  | .idx .ix => [0xDD#8, 0x2A#8, loByte nn, hiByte nn]
  | .idx .iy => [0xFD#8, 0x2A#8, loByte nn, hiByte nn]

def WordReg.storeBytes (nn : Word) : WordReg → List Byte
  | .hl => [0x22#8, loByte nn, hiByte nn]
  | .ss p => [0xED#8, 0x43#8 + 16#8 * p.code, loByte nn, hiByte nn]
  | .idx .ix => [0xDD#8, 0x22#8, loByte nn, hiByte nn]
  | .idx .iy => [0xFD#8, 0x22#8, loByte nn, hiByte nn]

/-- What PUSH and POP move: a pair qq, or IX, IY (45_load.md R395 to R399). -/
inductive StackReg where
  | qq (p : PairQ)
  | idx (x : IndexReg)
  deriving DecidableEq, Repr

def StackReg.get (s : State) : StackReg → Word
  | .qq p => s.pairQ p
  | .idx x => s.index x

def StackReg.put (u : State) (v : Word) : StackReg → State
  | .qq p => u.setPairQ p v
  | .idx x => u.setIndex x v

def StackReg.push : StackReg → Instr
  | .qq p => .pushQq p
  | .idx .ix => .pushIx
  | .idx .iy => .pushIy

/-- POP AF is the instruction of R398, the other pairs those of R397. -/
def StackReg.pop : StackReg → Instr
  | .qq .af => .popAf
  | .qq p => .popQq p
  | .idx .ix => .popIx
  | .idx .iy => .popIy

def StackReg.bytes (op : Byte) : StackReg → List Byte
  | .qq p => [op + 16#8 * p.code]
  | .idx .ix => [0xDD#8, op + 0x20#8]
  | .idx .iy => [0xFD#8, op + 0x20#8]

/-- The register EX (SP) swaps with the top of the stack. -/
inductive TopReg where
  | hl
  | idx (x : IndexReg)
  deriving DecidableEq, Repr

def TopReg.get (s : State) : TopReg → Word
  | .hl => s.hl
  | .idx x => s.index x

def TopReg.put (u : State) (v : Word) : TopReg → State
  | .hl => u.setHL v
  | .idx x => u.setIndex x v

def TopReg.instr : TopReg → Instr
  | .hl => .exSpHl
  | .idx .ix => .exSpIx
  | .idx .iy => .exSpIy

def TopReg.bytes : TopReg → List Byte
  | .hl => [0xE3#8]
  | .idx .ix => [0xDD#8, 0xE3#8]
  | .idx .iy => [0xFD#8, 0xE3#8]

/-- The block instructions by direction and repetition. -/
def transferInstr (up again : Bool) : Instr :=
  match up, again with
  | true, false => .ldi
  | false, false => .ldd
  | true, true => .ldir
  | false, true => .lddr

def searchInstr (up again : Bool) : Instr :=
  match up, again with
  | true, false => .cpi
  | false, false => .cpd
  | true, true => .cpir
  | false, true => .cpdr

/-- `v + 1` or `v - 1` modulo 65536. -/
def nextWord (up : Bool) (v : Word) : Word :=
  BitVec.ofNat 16 ((v.toNat + if up then 1 else 65535) % 65536)

/-- `u` with the seven general registers of `t`. -/
def State.withGeneral (u t : State) : State :=
  { u with a := t.a, b := t.b, c := t.c, d := t.d, e := t.e, h := t.h, l := t.l }

/-- The number of 1 bits is even (10_state.md R48). -/
def evenOnes (v : Byte) : Bool := decide ((List.range 8).countP (fun k => v.getLsbD k) % 2 = 0)

/-- The word at an address, the low byte first (20_memory.md R85). -/
def State.wordAt (s : State) (a : Word) : Word :=
  BitVec.ofNat 16 (256 * (s.mem.get (a + 1).toNat).toNat + (s.mem.get a.toNat).toNat)

/-- The two writes of a push, in order (20_memory.md R90). -/
def State.pushWrites (s : State) : List (Word × AccessKind) := [(s.sp - 1, .write), (s.sp - 2, .write)]

/-- The two reads of a pop, in order (20_memory.md R91). -/
def State.popReads (s : State) : List (Word × AccessKind) := [(s.sp, .read), (s.sp + 1, .read)]

/-- The word `v` is pushed: its high byte at SP - 1, its low byte at SP - 2, SP lower by 2 (20_memory.md R90). -/
def pushed (s t : State) (v : Word) : Prop :=
  t.sp = s.sp - 2 ∧
    stores2 s t (s.sp - 1) (BitVec.ofNat 8 (v.toNat / 256)) (s.sp - 2) (BitVec.ofNat 8 (v.toNat % 256))

/-- The condition with field value c of R124: 0 and 1 test Z, 2 and 3 C, 4 and 5 PV, 6 and 7 S; an odd value wants 1. -/
def conditionTrue (field : Nat) (f : Byte) : Bool :=
  f.getLsbD ([6, 0, 2, 7].getD (field / 2) 0) == decide (field % 2 = 1)

/-- `k` executions of one instruction. -/
def execTimes (i : Instr) : Nat → State → Host.Outcome State Fault Refusal
  | 0, s => .next s
  | k + 1, s =>
    match exec i s with
    | .next t => execTimes i k t
    | .fault r => .fault r
    | .refused r => .refused r

/-- The field of the state a setter of the builder writes. -/
inductive BuilderField where
  | reg8 (r : Reg8)
  | f
  | shadow8 (r : Reg8)
  | shadowF
  | ix
  | iy
  | sp
  | pc
  | i
  | r
  | iff1
  | iff2
  | im
  | run
  | eiShadow
  | nmiPending
  | byte (a : Word)
  deriving DecidableEq, Repr

def Setting.field (x : Setting) : BuilderField :=
  match x with
  | .reg8 reg _ => .reg8 reg
  | .f _ => .f
  | .shadow8 reg _ => .shadow8 reg
  | .shadowF _ => .shadowF
  | .ix _ => .ix
  | .iy _ => .iy
  | .sp _ => .sp
  | .pc _ => .pc
  | .i _ => .i
  | .r _ => .r
  | .iff1 _ => .iff1
  | .iff2 _ => .iff2
  | .im _ => .im
  | .run _ => .run
  | .eiShadow _ => .eiShadow
  | .nmiPending _ => .nmiPending
  | .byte a _ => .byte a

/-- The instructions that write PC otherwise than to `next` (10_state.md R61; 46_jump_call_return.md R420;
44_exchange_block.md R340). -/
def writesPc : Instr → Bool
  | .jpNn .. | .jpCcNn .. | .jrE .. | .jrJE .. | .djnzE .. | .jpHl | .jpIx | .jpIy | .callNn .. | .callCcNn ..
    | .ret | .retCc .. | .reti | .retn | .rstT .. | .ldir | .lddr | .cpir | .cpdr => true
  | _ => false

/-- The next step takes the NMI: the core is alive, no RESET, and an edge has been or is reported (R510, R511). -/
def State.nmiNext (s : State) : Bool :=
  s.alive && !s.nextInputs.reset && (s.nmiPending || s.nextInputs.nmiEdge)

/-- The next step accepts an INT: the core is alive, no RESET and no NMI, and R519. -/
def State.intNext (s : State) : Bool :=
  s.alive && !s.nextInputs.reset && !s.nmiPending && !s.nextInputs.nmiEdge && s.nextInputs.intReq && s.iff1
    && !s.eiShadow

end Sys2Proof.Machine

open Sys2Proof Sys2Proof.Machine

/-! ### Encoding (30_encoding.md) -/

/-- Words written out from the encodings of the spec, at least one of every family, decode to the instruction they
stand for (30_encoding.md R126 to R132). -/
def Obligations.DecodedWordsAreRight : Prop :=
  decode [0x8E#8] = .instr .adcAHl ∧
  decode [0xDD#8, 0x96#8, 0xFB#8] = .instr (.subIxd 0xFB#8) ∧
  decode [0xFE#8, 0x12#8] = .instr (.cpN 0x12#8) ∧
  decode [0x3D#8] = .instr (.decR .a) ∧
  decode [0x27#8] = .instr .daa ∧
  decode [0xED#8, 0x72#8] = .instr (.sbcHlSs .sp) ∧
  decode [0xFD#8, 0x29#8] = .instr (.addIyRr .xy) ∧
  decode [0xCB#8, 0x1D#8] = .instr (.rrR .l) ∧
  decode [0xDD#8, 0xCB#8, 0x80#8, 0x3E#8] = .instr (.srlIxd 0x80#8) ∧
  decode [0xED#8, 0x6F#8] = .instr .rld ∧
  decode [0xCB#8, 0x7B#8] = .instr (.bitR 7#3 .e) ∧
  decode [0xFD#8, 0xCB#8, 0xFF#8, 0xAE#8] = .instr (.resIyd 5#3 0xFF#8) ∧
  decode [0xCB#8, 0xD6#8] = .instr (.setHl 2#3) ∧
  decode [0x08#8] = .instr .exAfAf ∧
  decode [0xED#8, 0xB8#8] = .instr .lddr ∧
  decode [0xED#8, 0xB1#8] = .instr .cpir ∧
  decode [0x66#8] = .instr (.ldRHl .h) ∧
  decode [0xDD#8, 0x66#8, 0x05#8] = .instr (.ldRIxd .h 0x05#8) ∧
  decode [0xFD#8, 0x36#8, 0xFF#8, 0x5E#8] = .instr (.ldIydN 0xFF#8 0x5E#8) ∧
  decode [0xED#8, 0x7B#8, 0x34#8, 0x12#8] = .instr (.ldDdMem .sp 0x1234#16) ∧
  decode [0xF1#8] = .instr .popAf ∧
  decode [0xEC#8, 0x34#8, 0x12#8] = .instr (.callCcNn .pe 0x1234#16) ∧
  decode [0x38#8, 0x10#8] = .instr (.jrJE .c 0x10#8) ∧
  decode [0xDF#8] = .instr (.rstT 3#3) ∧
  decode [0xED#8, 0x45#8] = .instr .retn ∧
  decode [0x76#8] = .instr .halt ∧
  decode [0xED#8, 0x5E#8] = .instr .im2 ∧
  decode [0xDB#8, 0x10#8] = .instr (.inAN 0x10#8) ∧
  decode [0xED#8, 0x79#8] = .instr (.outCR .a)

/-- Decoding the encoding of any instruction, whatever bytes follow it, gives that instruction back with every
operand (30_encoding.md R111, R117), and its encoding has the length of its format. -/
def Obligations.DecodeOfEncodeIsTheInstruction : Prop :=
  ∀ (i : Instr) (rest : List Byte), i.wf = true →
    decode (encode i ++ rest) = .instr i ∧ (encode i).length = i.length

/-- An instruction the decoder reads is well formed, and its encoding is the bytes it was read from: the decoder
gives no two byte sequences of one length the same instruction and drops no bit (30_encoding.md R111, R117, R126 to
R132, R142, R147: sections 1, 2, 3, 5 and 6). -/
def Obligations.EncodeOfDecodeIsTheBytes : Prop :=
  ∀ (b0 b1 b2 b3 : Byte) (rest : List Byte) (i : Instr), decode (b0 :: b1 :: b2 :: b3 :: rest) = .instr i →
    i.wf = true ∧ encode i = [b0, b1, b2, b3].take i.length

/-- The illegal sequences are exactly those of the table of R140, the decoder reports the bytes it read up to the point
of refusal, and executing one yields the IllegalInstruction outcome (30_encoding.md R140). -/
def Obligations.IllegalSpaceIsExact : Prop :=
  (∀ b0 b1 b2 b3 : Byte, isPrefixByte b0 = false → ∃ i, decode [b0, b1, b2, b3] = .instr i) ∧
  (∀ op b2 b3 : Byte, decode [0xCB#8, op, b2, b3] = .illegal [0xCB#8, op] ↔ 0x30 ≤ op.toNat ∧ op.toNat ≤ 0x37) ∧
  (∀ op b2 b3 : Byte, decode [0xED#8, op, b2, b3] = .illegal [0xED#8, op] ↔
    op.toNat ≤ 0x3F ∨
    op.toNat ∈ [0x4C, 0x4E, 0x54, 0x55, 0x5C, 0x5D, 0x64, 0x65, 0x66, 0x6C, 0x6D, 0x6E, 0x70, 0x71, 0x74, 0x75,
      0x76, 0x77, 0x7C, 0x7D, 0x7E, 0x7F] ∨
    (0x80 ≤ op.toNat ∧ op.toNat ≤ 0x9F) ∨ (0xA4 ≤ op.toNat ∧ op.toNat ≤ 0xA7) ∨
    (0xAC ≤ op.toNat ∧ op.toNat ≤ 0xAF) ∨ (0xB4 ≤ op.toNat ∧ op.toNat ≤ 0xB7) ∨ 0xBC ≤ op.toNat) ∧
  (∀ b0 op b2 b3 : Byte, b0 = 0xDD#8 ∨ b0 = 0xFD#8 →
    (decode [b0, op, b2, b3] = .illegal [b0, op] ↔
      op.toNat ∉ [0x09, 0x19, 0x29, 0x39, 0x21, 0x22, 0x2A, 0x23, 0x2B, 0x34, 0x35, 0x36, 0x46, 0x4E, 0x56, 0x5E,
        0x66, 0x6E, 0x7E, 0x70, 0x71, 0x72, 0x73, 0x74, 0x75, 0x77, 0x86, 0x8E, 0x96, 0x9E, 0xA6, 0xAE, 0xB6, 0xBE,
        0xCB, 0xE1, 0xE3, 0xE5, 0xE9, 0xF9])) ∧
  (∀ b0 d op : Byte, b0 = 0xDD#8 ∨ b0 = 0xFD#8 →
    (decode [b0, 0xCB#8, d, op] = .illegal [b0, 0xCB#8, d, op] ↔ op.toNat % 8 ≠ 6 ∨ op.toNat = 0x36)) ∧
  ∀ (b0 b1 b2 b3 : Byte) (bytes : List Byte), decode [b0, b1, b2, b3] = .illegal bytes →
    (bytes = [b0, b1] ∨ (b1 = 0xCB#8 ∧ bytes = [b0, b1, b2, b3])) ∧
    ∀ s : State, s.instructionNext = true → s.pc.toNat < s.mem.size → s.codeBytes = [b0, b1, b2, b3] →
      ∃ t, step s = .next t ∧ t.outcome = some .illegalInstruction ∧
        t.arch = s.arch.raise (.illegalInstruction s.pc bytes)

/-! ### The step (60_exceptions.md, 30_encoding.md R112, R113) -/

/-- When the next step executes an instruction: a PC outside the buffer raises MemoryFault of the fetch; else bytes
that are no instruction raise IllegalInstruction with the bytes read; else the step is `exec` of the instruction the
bytes at PC decode to (30_encoding.md R112, R113; 60_exceptions.md R512 items 1 and 2). The schedule of input lines
and the recorded outcome are fields of the model's own (notes/assumptions/4.md and 5.md). -/
def Obligations.StepRunsTheDecodedInstruction : Prop :=
  ∀ s : State, s.instructionNext = true →
    (s.mem.size ≤ s.pc.toNat →
      step s = .next ((s.advanceInputs.raise (.memoryFault s.pc .fetch s.pc)).report .memoryFault)) ∧
    (s.pc.toNat < s.mem.size → ∀ read, decode s.codeBytes = .illegal read →
      step s = .next ((s.advanceInputs.raise (.illegalInstruction s.pc read)).report .illegalInstruction)) ∧
    (s.pc.toNat < s.mem.size → ∀ i, decode s.codeBytes = .instr i →
      step s = Outcome.reporting (exec i s.advanceInputs) (.executed i))

/-- Every step answers a next state and exactly one outcome: the code is 0 for a core that still runs, 1 to 3 for the
step that faulted, with the record kept in run_state and given on the `fault` output, and 4 for a core that was
Faulted already. The `halted` output tells that the core is Halted after the step; the `reti` output that the step
executed RETI. The capacity of the memory never changes (60_exceptions.md R501, R503, R504; 00_scope.md R6). That the
outcome stands in the state is the model's own (notes/assumptions/5.md). -/
def Obligations.EveryStepHasOneOutcome : Prop :=
  ∀ s : State, ∃ t o, step s = .next t ∧ t.outcome = some o ∧ t.mem.size = s.mem.size ∧
    (t.alive = true → o.code = 0 ∧ t.faultOutput = none) ∧
    (s.alive = true → ∀ record, t.run = .faulted record →
      o = record.outcome ∧ o.code = record.code ∧ t.faultOutput = some record) ∧
    (s.alive = false → o = .stuck ∧ t.faultOutput = none) ∧
    (t.haltedOutput = true ↔ t.run = .halted) ∧
    (t.retiOutput = true ↔ t.alive = true ∧ s.instructionNext = true ∧ decode s.codeBytes = .instr .reti)

/-- The priority of a step: Stuck for a Faulted core, then RESET, then NMI, then an INT that R519 accepts, then the
halted idle step, then the instruction (60_exceptions.md R510, R519). The outcome is the one the priority gives, or
the fault the response or the instruction raises. -/
def Obligations.StepPriority : Prop :=
  ∀ s t : State, step s = .next t →
    (s.alive = false → t.outcome = some .stuck) ∧
    (s.alive = true → s.nextInputs.reset = true → t.outcome = some .reset) ∧
    (s.nmiNext = true → t.outcome = some .nmiTaken ∨ t.outcome = some .memoryFault) ∧
    (s.intNext = true →
      t.outcome = some .intTaken ∨ t.outcome = some .unimplemented ∨ t.outcome = some .memoryFault) ∧
    (s.alive = true → s.nextInputs.reset = false → s.nmiNext = false → s.intNext = false →
      (s.run = .halted → t.outcome = some .idle) ∧
      (s.run = .running → s.instructionNext = true ∧
        ((∃ i, t.outcome = some (.executed i)) ∨ t.outcome = some .illegalInstruction ∨
          t.outcome = some .unimplemented ∨ t.outcome = some .memoryFault)))

/-- A fault leaves the state of the start of the step, byte for byte, with run_state Faulted; a Faulted core answers
Stuck to every later step, whatever its inputs, RESET included, and nothing changes (60_exceptions.md R505). -/
def Obligations.FaultsArePreciseAndSticky : Prop :=
  (∀ s t : State, s.alive = true → step s = .next t → t.alive = false →
    ∃ record : Fault, t.arch = { s.arch with run := .faulted record } ∧ t.outcome = some record.outcome) ∧
  ∀ s : State, s.alive = false → ∃ t, step s = .next t ∧ t.arch = s.arch ∧ t.outcome = some .stuck

/-- A MemoryFault names an address outside the buffer and the PC of the start of the step; so with MEM_SIZE = 65536
none can occur (60_exceptions.md R504, R508). -/
def Obligations.MemoryFaultIsOutsideTheBuffer : Prop :=
  ∀ s t : State, s.alive = true → step s = .next t →
    ∀ addr kind pc0, t.run = .faulted (.memoryFault addr kind pc0) →
      s.mem.size ≤ addr.toNat ∧ pc0 = s.pc ∧ s.mem.size ≠ 65536

/-- Every step keeps the invariant: the memory in its canonical form (the model's, notes/assumptions/3.md) and IFF1 set
only with IFF2 set (10_state.md R56). -/
def Obligations.StepKeepsInvariant : Prop :=
  ∀ s t : State, s.inv = true → step s = .next t → t.inv = true

/-- The construction state meets the invariant, and its every field is the value of the construction column of R30
(10_state.md R30): zero, false, mode 0, Running, PC at 0x0000 and every byte of the 65536 bytes of memory zero. -/
def Obligations.ResetStateMeetsInvariant : Prop :=
  State.reset.inv = true ∧
  (∀ r, State.reset.reg8 r = 0) ∧ State.reset.f = 0 ∧
  State.reset.a' = 0 ∧ State.reset.f' = 0 ∧ State.reset.b' = 0 ∧ State.reset.c' = 0 ∧ State.reset.d' = 0 ∧
  State.reset.e' = 0 ∧ State.reset.h' = 0 ∧ State.reset.l' = 0 ∧
  State.reset.ix = 0 ∧ State.reset.iy = 0 ∧ State.reset.sp = 0 ∧ State.reset.pc = 0 ∧
  State.reset.i = 0 ∧ State.reset.r = 0 ∧ State.reset.iff1 = false ∧ State.reset.iff2 = false ∧
  State.reset.im = .im0 ∧ State.reset.run = .running ∧ State.reset.eiShadow = false ∧
  State.reset.nmiPending = false ∧ State.reset.mem.size = 65536 ∧ ∀ a : Nat, State.reset.mem.get a = 0

/-- The NMI latch is consumed in the step that sets it: it is false after every step that leaves the core running or
halted (60_exceptions.md R511). -/
def Obligations.NmiLatchIsNeverLeftSet : Prop :=
  ∀ s t : State, step s = .next t → t.alive = true → t.nmiPending = false

/-! ### Whole-machine rules about the registers (10_state.md) -/

/-- The shadow set is written only by the two exchange instructions (10_state.md R38): EX AF,AF' for A', F' and EXX
for the six others. -/
def Obligations.ShadowSetWriters : Prop :=
  ∀ (i : Instr) (s t : State), exec i s = .next t →
    (i ≠ .exAfAf → t.a' = s.a' ∧ t.f' = s.f') ∧
    (i ≠ .exx → t.b' = s.b' ∧ t.c' = s.c' ∧ t.d' = s.d' ∧ t.e' = s.e' ∧ t.h' = s.h' ∧ t.l' = s.l')

/-- F[5] and F[3] change only when F is written as a whole byte: by POP AF and EX AF,AF' (10_state.md R41; the
builder, the third writer of R41, is no instruction). -/
def Obligations.UnusedFlagBitsAreKept : Prop :=
  ∀ (i : Instr) (s t : State), i.wf = true → exec i s = .next t → i ≠ .popAf → i ≠ .exAfAf → sameUnused s.f t.f

/-- The instructions that write each special register and interrupt flag: I by LD I,A (10_state.md R54); IM by IM 0,
IM 1, IM 2 (R58); IFF2 by DI and EI, IFF1 by these, RETI and RETN (R56); run_state by HALT or a fault (R57); the EI
shadow is on after an executed EI and off after every other executed instruction (R59); none writes the NMI latch
(R60). -/
def Obligations.SpecialRegisterWriters : Prop :=
  ∀ (i : Instr) (s t : State), s.alive = true → exec i s = .next t →
    (t.i ≠ s.i → i = .ldIA) ∧
    (t.im ≠ s.im → i = .im0 ∨ i = .im1 ∨ i = .im2) ∧
    (t.iff2 ≠ s.iff2 → i = .di ∨ i = .ei) ∧
    (t.iff1 ≠ s.iff1 → i = .di ∨ i = .ei ∨ i = .reti ∨ i = .retn) ∧
    (t.run ≠ s.run → (i = .halt ∧ t.run = .halted) ∨ ∃ record, t = s.raise record) ∧
    (t.alive = true → (t.eiShadow = true ↔ i = .ei)) ∧
    t.nmiPending = s.nmiPending

/-- An executed instruction adds its M1 count to the low seven bits of R modulo 128 and keeps bit 7: 2 for a prefixed
instruction, 1 for any other; LD R,A then writes all eight bits (10_state.md R55; 30_encoding.md R115; 45_load.md
R380). -/
def Obligations.RefreshRegisterCounts : Prop :=
  ∀ (i : Instr) (s t : State), s.alive = true → exec i s = .next t → t.alive = true →
    if i = .ldRA then t.r = s.a
    else t.r.toNat / 128 = s.r.toNat / 128 ∧
      t.r.toNat % 128 =
        (s.r.toNat % 128 + if isPrefixByte ((encode i).headD 0) then 2 else 1) % 128

/-- An instruction that does not transfer control leaves PC at PC0 plus its encoded length modulo MEM_SIZE
(10_state.md R61). -/
def Obligations.PcAdvancesByTheLength : Prop :=
  ∀ (i : Instr) (s t : State), s.mem.wf = true → s.alive = true → exec i s = .next t → t.alive = true →
    writesPc i = false → t.pc.toNat = (s.pc.toNat + (encode i).length) % s.mem.size

/-! ### Flags, addresses, construction -/

/-- The half-carry of every 8-bit addition and subtraction, with either carry-in, is the entry of the tables of R43 at
`a[3] + 2*b[3] + 4*r[3]`, and equals bit 4 of `a ^ b ^ r` (10_state.md R43). -/
def Obligations.HalfCarryTablesAgree : Prop :=
  ∀ (a b : Byte) (cin : Bool),
    ((add8 a b cin).h =
        [false, true, true, true, false, false, false, true].getD (halfCarryIndex a b (add8 a b cin).r) false ∧
      (add8 a b cin).h = (a ^^^ b ^^^ (add8 a b cin).r).getLsbD 4) ∧
    ((sub8 a b cin).h =
        [false, false, true, false, true, false, true, true].getD (halfCarryIndex a b (sub8 a b cin).r) false ∧
      (sub8 a b cin).h = (a ^^^ b ^^^ (sub8 a b cin).r).getLsbD 4)

/-- The indexed effective address: IX or IY plus the displacement byte read as two's complement, modulo MEM_SIZE; it
is inside the buffer (20_memory.md R93). -/
def Obligations.IndexedAddressWraps : Prop :=
  ∀ (s : State) (x : IndexReg) (d : Byte), s.mem.wf = true →
    ((s.ea x d).toNat : Int) =
      ((s.index x).toNat + (if d.toNat < 128 then (d.toNat : Int) else (d.toNat : Int) - 256)) % s.mem.size ∧
    (s.ea x d).toNat < s.mem.size

/-- The setters of the builder may be called in any order: two that write different fields commute, and of two that
write the same field the last wins (70_reset_and_hazards.md R550). A byte outside the buffer is the model's choice
(notes/assumptions/8.md). -/
def Obligations.BuilderSettersCommute : Prop :=
  ∀ (memSize : Nat) (before after : List Setting) (x y : Setting), 1 ≤ memSize → memSize ≤ 65536 →
    (x.field ≠ y.field →
      build memSize (before ++ [x, y] ++ after) = build memSize (before ++ [y, x] ++ after)) ∧
    (x.field = y.field →
      build memSize (before ++ [x, y] ++ after) = build memSize (before ++ [y] ++ after))

/-! ### RESET and interrupts -/

/-- A step with RESET asserted, from Running or Halted: the fields R552 names take their values, everything else is
kept, and a simultaneous NMI edge and INT request are discarded; a Faulted core stays as it is
(70_reset_and_hazards.md R552). -/
def Obligations.ResetInputApplies : Prop :=
  ∀ s : State, s.nextInputs.reset = true → ∃ t, step s = .next t ∧
    if s.alive then
      t.outcome = some .reset ∧
      t.arch = { s.arch with
        pc := 0, i := 0, r := 0, iff1 := false, iff2 := false, im := .im0, eiShadow := false, nmiPending := false
        run := .running }
    else t.outcome = some .stuck ∧ t.arch = s.arch

/-- The NMI response: PC is pushed and PC becomes 0x0066, IFF1 is cleared and IFF2 kept, the latch and the EI shadow
are cleared, the core runs and R counts one M1 cycle; nothing else changes. A push outside the buffer is a
MemoryFault (60_exceptions.md R515). -/
def Obligations.NmiResponse : Prop :=
  ∀ s : State, s.nmiNext = true → ∃ t, step s = .next t ∧
    match s.firstOutside s.pushWrites with
    | none =>
      t.outcome = some .nmiTaken ∧ pushed s t s.pc ∧
      t.arch = { s.arch with
        nmiPending := false, iff1 := false, eiShadow := false, run := .running, r := incR 1 s.r
        pc := 0x0066#16, sp := t.sp, mem := t.mem }
    | some (a, kind) => t.outcome = some .memoryFault ∧ t.arch = s.arch.raise (.memoryFault a kind s.pc)

/-- The INT response in the three modes: both flip-flops cleared, the core runs, R counts one M1 cycle, PC pushed; PC
becomes the RST target of the bus byte in mode 0, 0x0038 in mode 1, and in mode 2 the word that memory holds after the
push at I : bus byte. In mode 0 a bus byte that is no RST opcode is Unimplemented before any effect; an access
outside the buffer is a MemoryFault (60_exceptions.md R520, R521). -/
def Obligations.IntResponse : Prop :=
  ∀ s : State, s.intNext = true → ∃ t, step s = .next t ∧
    let bus := s.nextInputs.busByte
    let vector := BitVec.ofNat 16 (256 * s.i.toNat + bus.toNat)
    let accesses := s.pushWrites ++ if s.im = .im2 then [(vector, .read), (vector + 1, .read)] else []
    if s.im = .im0 ∧ ¬∃ k : BitVec 3, bus.toNat = 0xC7 + 8 * k.toNat then
      t.outcome = some .unimplemented ∧ t.arch = s.arch.raise (.unimplemented .im0BusByte s.pc [bus])
    else
      match s.firstOutside accesses with
      | none =>
        t.outcome = some .intTaken ∧ pushed s t s.pc ∧
        t.arch = { s.arch with
          iff1 := false, iff2 := false, run := .running, r := incR 1 s.r, pc := t.pc, sp := t.sp, mem := t.mem } ∧
        t.pc = match s.im with
          | .im0 => BitVec.ofNat 16 (bus.toNat - 0xC7)
          | .im1 => 0x0038#16
          | .im2 => t.wordAt vector
      | some (a, kind) => t.outcome = some .memoryFault ∧ t.arch = s.arch.raise (.memoryFault a kind s.pc)

/-- After a step that executed EI no INT is taken at the next step (60_exceptions.md R518, R576): whatever the input
lines, the next step is a RESET, an NMI response or the instruction after EI. -/
def Obligations.EiDefersTheInterrupt : Prop :=
  ∀ s t u : State, s.alive = true → step s = .next t → t.outcome = some (.executed .ei) → step t = .next u →
    t.iff1 = true ∧ t.iff2 = true ∧ u.outcome ≠ some .intTaken ∧
    (t.nextInputs.reset = false → t.nextInputs.nmiEdge = false → t.instructionNext = true)

/-- RETN after an NMI response resumes the interrupted program: PC and SP are those before the NMI, IFF1 takes the
value IFF2 had, and no other register has changed but R, which counted the acknowledge and the RETN
(60_exceptions.md R515 and R525 in sections 5 and 6; 46_jump_call_return.md R437 in section 4). -/
def Obligations.RetnResumesAfterNmi : Prop :=
  ∀ s t : State, s.mem.wf = true → s.nmiNext = true → step s = .next t → t.outcome = some .nmiTaken →
    ∃ u, exec .retn t = .next u ∧
      u.arch = { s.arch with
        iff1 := s.iff2, run := .running, eiShadow := false, nmiPending := false, r := incR 2 (incR 1 s.r)
        mem := t.mem } ∧
      stores2 s t (s.sp - 1) (hiByte s.pc) (s.sp - 2) (loByte s.pc)

/-! ### 8-bit arithmetic and logic (40_alu8.md) -/

/-- ADD A,s and ADC A,s in every form: A becomes the sum (with the carry for ADC) modulo 256; S, Z of the result, H the
carry out of bit 3, PV the signed overflow, N = 0, C the carry out (40_alu8.md R201, R202). -/
def Obligations.AddAndAdcSumIntoA : Prop :=
  ∀ (op : AluOp) (src : AluSource) (s : State), op = .add ∨ op = .adc →
    let i := op.instr src
    let v := src.value s
    let cin : Nat := if op = .adc then carryNat s.f else 0
    encode i = op.bytes src ∧
    Completes i s (src.reads s) fun t =>
      t = { s.after i with a := t.a, f := t.f } ∧
      t.a.toNat = (s.a.toNat + v.toNat + cin) % 256 ∧
      sixFlags t.f =
        { s := decide (128 ≤ t.a.toNat)
          z := decide (t.a.toNat = 0)
          h := decide (16 ≤ s.a.toNat % 16 + v.toNat % 16 + cin)
          pv := decide (s.a.toInt + v.toInt + cin < -128 ∨ 127 < s.a.toInt + v.toInt + cin)
          n := false
          c := decide (256 ≤ s.a.toNat + v.toNat + cin) } ∧
      sameUnused s.f t.f

/-- SUB s, SBC A,s and CP s in every form: the difference (less the carry for SBC) modulo 256 becomes A, except for
CP, which keeps A; S, Z of the difference, H the borrow from bit 4, PV the signed overflow, N = 1, C the borrow
(40_alu8.md R203, R204, R208). -/
def Obligations.SubSbcAndCpSubtract : Prop :=
  ∀ (op : AluOp) (src : AluSource) (s : State), op = .sub ∨ op = .sbc ∨ op = .cp →
    let i := op.instr src
    let v := src.value s
    let cin : Nat := if op = .sbc then carryNat s.f else 0
    let diff : Int := (s.a.toNat : Int) - v.toNat - cin
    let res : Int := diff % 256
    let signed : Int := s.a.toInt - v.toInt - cin
    encode i = op.bytes src ∧
    Completes i s (src.reads s) fun t =>
      t = { s.after i with a := t.a, f := t.f } ∧
      (t.a.toNat : Int) = (if op = .cp then (s.a.toNat : Int) else res) ∧
      sixFlags t.f =
        { s := decide (128 ≤ res)
          z := decide (res = 0)
          h := decide (s.a.toNat % 16 < v.toNat % 16 + cin)
          pv := decide (signed < -128 ∨ 127 < signed)
          n := true
          c := decide (diff < 0) } ∧
      sameUnused s.f t.f

/-- AND s, XOR s and OR s in every form: A becomes the bitwise result; S, Z of it, H = 1 for AND and 0 for the others,
PV its parity, N = 0, C = 0 (40_alu8.md R205, R206, R207). -/
def Obligations.AndXorOrCombineBits : Prop :=
  ∀ (op : AluOp) (src : AluSource) (s : State), op = .and ∨ op = .xor ∨ op = .or →
    let i := op.instr src
    let v := src.value s
    encode i = op.bytes src ∧
    Completes i s (src.reads s) fun t =>
      t = { s.after i with a := t.a, f := t.f } ∧
      (∀ k < 8, t.a.getLsbD k =
        if op = .and then s.a.getLsbD k && v.getLsbD k
        else if op = .xor then s.a.getLsbD k != v.getLsbD k
        else s.a.getLsbD k || v.getLsbD k) ∧
      sixFlags t.f =
        { s := t.a.getLsbD 7
          z := decide (t.a.toNat = 0)
          h := decide (op = .and)
          pv := evenOnes t.a
          n := false
          c := false } ∧
      sameUnused s.f t.f

/-- INC m and DEC m on a register, (HL), (IX+d) and (IY+d): the operand plus or minus 1 modulo 256 is written back; S, Z
of the result, H, PV as for adding or subtracting 1 (PV when the operand was 0x7F, 0x80), N = 0 or 1, C kept
(40_alu8.md R210, R211). -/
def Obligations.IncAndDecByte : Prop :=
  ∀ (up : Bool) (o : Operand8) (s : State),
    let i := stepByte up o
    let v := (s.operandValue o).toNat
    let res := if up then (v + 1) % 256 else (v + 255) % 256
    encode i = stepByteBytes up o ∧
    Completes i s (s.operandReadsWrites o) fun t =>
      t = { (s.after i).withGeneral t with f := t.f, mem := t.mem } ∧
      holdsOnly s t o (BitVec.ofNat 8 res) ∧
      sixFlags t.f =
        { s := decide (128 ≤ res)
          z := decide (res = 0)
          h := if up then decide (v % 16 = 15) else decide (v % 16 = 0)
          pv := if up then decide (v = 0x7F) else decide (v = 0x80)
          n := !up
          c := flagC s.f } ∧
      sameUnused s.f t.f

/-- DAA for every A, C, H and N (40_alu8.md R220). -/
def Obligations.DaaAdjustsA : Prop :=
  ∀ s : State,
    let a := s.a.toNat
    let low := a % 16
    let diff := (if flagH s.f ∨ 9 < low then 6 else 0) + if flagC s.f ∨ 0x99 < a then 0x60 else 0
    let res := if flagN s.f then (a + 256 - diff) % 256 else (a + diff) % 256
    encode .daa = [0x27#8] ∧
    ∃ t, exec .daa s = .next t ∧ t = { s.after .daa with a := t.a, f := t.f } ∧
      t.a.toNat = res ∧
      sixFlags t.f =
        { s := decide (128 ≤ res)
          z := decide (res = 0)
          h := if flagN s.f then flagH s.f && decide (low < 6) else decide (9 < low)
          pv := evenOnes t.a
          n := flagN s.f
          c := flagC s.f || decide (0x99 < a) } ∧
      sameUnused s.f t.f

/-- What DAA is for: after ADC or SBC of two packed decimal numbers below 100 it leaves in A the packed decimal sum or
difference modulo 100, and in C whether it carried or borrowed (40_alu8.md sections 2 and 4). -/
def Obligations.DaaMakesDecimalArithmetic : Prop :=
  ∀ (s : State) (x y : Nat), x < 100 → y < 100 →
    let decimal (n : Nat) : Byte := BitVec.ofNat 8 (16 * (n / 10) + n % 10)
    s.a = decimal x →
    (∃ t u, exec (.adcAN (decimal y)) s = .next t ∧ exec .daa t = .next u ∧
      u.a = decimal ((x + y + carryNat s.f) % 100) ∧ flagC u.f = decide (100 ≤ x + y + carryNat s.f)) ∧
    ∃ t u, exec (.sbcAN (decimal y)) s = .next t ∧ exec .daa t = .next u ∧
      u.a = decimal ((x + 200 - y - carryNat s.f) % 100) ∧ flagC u.f = decide (x < y + carryNat s.f)

/-- CPL complements A and sets H and N; NEG negates A with the flags of the subtraction from 0; CCF complements C with
H the old C and N = 0; SCF sets C with H = N = 0; every other flag is kept (40_alu8.md R221, R222, R223, R224). -/
def Obligations.CplNegCcfScf : Prop :=
  ∀ s : State,
    (encode .cpl = [0x2F#8] ∧ ∃ t, exec .cpl s = .next t ∧ t = { s.after .cpl with a := t.a, f := t.f } ∧
      t.a.toNat = 255 - s.a.toNat ∧ sixFlags t.f = { sixFlags s.f with h := true, n := true } ∧
      sameUnused s.f t.f) ∧
    (encode .neg = [0xED#8, 0x44#8] ∧ ∃ t, exec .neg s = .next t ∧ t = { s.after .neg with a := t.a, f := t.f } ∧
      t.a.toNat = (256 - s.a.toNat) % 256 ∧
      sixFlags t.f =
        { s := decide (128 ≤ t.a.toNat)
          z := decide (s.a.toNat = 0)
          h := decide (s.a.toNat % 16 ≠ 0)
          pv := decide (s.a.toNat = 0x80)
          n := true
          c := decide (s.a.toNat ≠ 0) } ∧
      sameUnused s.f t.f) ∧
    (encode .ccf = [0x3F#8] ∧ ∃ t, exec .ccf s = .next t ∧ t = { s.after .ccf with f := t.f } ∧
      sixFlags t.f = { sixFlags s.f with h := flagC s.f, n := false, c := !flagC s.f } ∧ sameUnused s.f t.f) ∧
    (encode .scf = [0x37#8] ∧ ∃ t, exec .scf s = .next t ∧ t = { s.after .scf with f := t.f } ∧
      sixFlags t.f = { sixFlags s.f with h := false, n := false, c := true } ∧ sameUnused s.f t.f)

/-! ### 16-bit arithmetic (41_alu16.md) -/

/-- ADD HL,ss, ADD IX,pp and ADD IY,rr: the sum modulo 65536 is written to the first operand; H the carry from bit 11,
N = 0, C the carry from bit 15; S, Z, PV kept (41_alu16.md R250, R253, R254). -/
def Obligations.AddWordRegisters : Prop :=
  (∀ (p : Pair) (s : State),
    let i : Instr := .addHlSs p
    encode i = [0x09#8 + 16#8 * p.code] ∧
    ∃ t, exec i s = .next t ∧ t = { s.after i with h := t.h, l := t.l, f := t.f } ∧
      t.hl.toNat = (s.hl.toNat + (s.pair p).toNat) % 65536 ∧
      sixFlags t.f =
        { sixFlags s.f with
          h := decide (4096 ≤ s.hl.toNat % 4096 + (s.pair p).toNat % 4096)
          n := false
          c := decide (65536 ≤ s.hl.toNat + (s.pair p).toNat) } ∧
      sameUnused s.f t.f) ∧
  ∀ (x : IndexReg) (p : PairX) (s : State),
    let i : Instr := match x with
      | .ix => .addIxPp p
      | .iy => .addIyRr p
    let v := s.pairX x p
    encode i = [if x = .ix then 0xDD#8 else 0xFD#8, 0x09#8 + 16#8 * p.code] ∧
    ∃ t, exec i s = .next t ∧ t = { (s.after i).setIndex x (t.index x) with f := t.f } ∧
      (t.index x).toNat = ((s.index x).toNat + v.toNat) % 65536 ∧
      sixFlags t.f =
        { sixFlags s.f with
          h := decide (4096 ≤ (s.index x).toNat % 4096 + v.toNat % 4096)
          n := false
          c := decide (65536 ≤ (s.index x).toNat + v.toNat) } ∧
      sameUnused s.f t.f

/-- ADC HL,ss and SBC HL,ss: HL plus or minus the pair and the carry, modulo 65536; S and Z of the 16-bit result, H at
bit 11, PV the 16-bit signed overflow, N = 0 or 1, C the carry or borrow (41_alu16.md R251, R252). -/
def Obligations.AdcAndSbcWord : Prop :=
  ∀ (p : Pair) (s : State),
    let v := s.pair p
    let cin := carryNat s.f
    (encode (.adcHlSs p) = [0xED#8, 0x4A#8 + 16#8 * p.code] ∧
      ∃ t, exec (.adcHlSs p) s = .next t ∧ t = { s.after (.adcHlSs p) with h := t.h, l := t.l, f := t.f } ∧
      t.hl.toNat = (s.hl.toNat + v.toNat + cin) % 65536 ∧
      sixFlags t.f =
        { s := decide (32768 ≤ t.hl.toNat)
          z := decide (t.hl.toNat = 0)
          h := decide (4096 ≤ s.hl.toNat % 4096 + v.toNat % 4096 + cin)
          pv := decide (s.hl.toInt + v.toInt + cin < -32768 ∨ 32767 < s.hl.toInt + v.toInt + cin)
          n := false
          c := decide (65536 ≤ s.hl.toNat + v.toNat + cin) } ∧
      sameUnused s.f t.f) ∧
    (encode (.sbcHlSs p) = [0xED#8, 0x42#8 + 16#8 * p.code] ∧
      ∃ t, exec (.sbcHlSs p) s = .next t ∧ t = { s.after (.sbcHlSs p) with h := t.h, l := t.l, f := t.f } ∧
      t.hl.toNat = (s.hl.toNat + 131072 - v.toNat - cin) % 65536 ∧
      sixFlags t.f =
        { s := decide (32768 ≤ t.hl.toNat)
          z := decide (t.hl.toNat = 0)
          h := decide (s.hl.toNat % 4096 < v.toNat % 4096 + cin)
          pv := decide (s.hl.toInt - v.toInt - cin < -32768 ∨ 32767 < s.hl.toInt - v.toInt - cin)
          n := true
          c := decide (s.hl.toNat < v.toNat + cin) } ∧
      sameUnused s.f t.f)

/-- INC ss, DEC ss, INC IX, DEC IX, INC IY and DEC IY: the register plus or minus 1 modulo 65536, no flag, nothing else
(41_alu16.md R255 to R258). -/
def Obligations.IncAndDecWord : Prop :=
  (∀ (up : Bool) (p : Pair) (s : State),
    let i : Instr := if up then .incSs p else .decSs p
    encode i = [(if up then 0x03#8 else 0x0B#8) + 16#8 * p.code] ∧
    ∃ t, exec i s = .next t ∧ t = { (s.after i).withGeneral t with sp := t.sp } ∧ t.a = s.a ∧
      ∀ q, (t.pair q).toNat =
        if q = p then ((s.pair p).toNat + if up then 1 else 65535) % 65536 else (s.pair q).toNat) ∧
  ∀ (up : Bool) (x : IndexReg) (s : State),
    let i : Instr := match up, x with
      | true, .ix => .incIx
      | false, .ix => .decIx
      | true, .iy => .incIy
      | false, .iy => .decIy
    encode i = [if x = .ix then 0xDD#8 else 0xFD#8, if up then 0x23#8 else 0x2B#8] ∧
    ∃ t, exec i s = .next t ∧ t = (s.after i).setIndex x (t.index x) ∧
      (t.index x).toNat = ((s.index x).toNat + if up then 1 else 65535) % 65536

/-! ### Rotates and shifts (42_rotate_shift.md) -/

/-- RLCA, RRCA, RLA and RRA: A rotated, through C for RLA and RRA; C the bit rotated out, H = N = 0, S, Z, PV kept
(42_rotate_shift.md R280 to R283). -/
def Obligations.AccumulatorRotates : Prop :=
  ∀ (op : ShiftOp) (s : State), op = .rlc ∨ op = .rrc ∨ op = .rl ∨ op = .rr →
    let i : Instr := match op with
      | .rlc => .rlca
      | .rrc => .rrca
      | .rl => .rla
      | _ => .rra
    encode i = [op.opcode + 1#8] ∧
    ∃ t, exec i s = .next t ∧ t = { s.after i with a := t.a, f := t.f } ∧
      t.a.toNat = op.result s.a.toNat (carryNat s.f) ∧
      sixFlags t.f = { sixFlags s.f with h := false, n := false, c := decide (op.out s.a.toNat = 1) } ∧
      sameUnused s.f t.f

/-- RLC, RRC, RL, RR, SLA, SRA and SRL of a register, (HL), (IX+d) and (IY+d): the result is written back; S, Z and
parity of it, H = N = 0, C the bit shifted out (42_rotate_shift.md R285 to R292). -/
def Obligations.RotatesAndShifts : Prop :=
  ∀ (op : ShiftOp) (o : Operand8) (s : State),
    let i := op.instr o
    let v := (s.operandValue o).toNat
    let res := op.result v (carryNat s.f)
    encode i = cbBytes op.opcode o ∧
    Completes i s (s.operandReadsWrites o) fun t =>
      t = { (s.after i).withGeneral t with f := t.f, mem := t.mem } ∧
      holdsOnly s t o (BitVec.ofNat 8 res) ∧
      sixFlags t.f =
        { s := decide (128 ≤ res)
          z := decide (res = 0)
          h := false
          pv := evenOnes (BitVec.ofNat 8 res)
          n := false
          c := decide (op.out v = 1) } ∧
      sameUnused s.f t.f

/-- RLD and RRD: the three digits of the low half of A and the byte at HL rotate left or right by one digit; S, Z and
parity of the new A, H = N = 0, C kept (42_rotate_shift.md R295, R296). -/
def Obligations.DigitRotates : Prop :=
  ∀ (left : Bool) (s : State),
    let i : Instr := if left then .rld else .rrd
    let m := (s.mem.get s.hl.toNat).toNat
    let a := s.a.toNat
    encode i = [0xED#8, if left then 0x6F#8 else 0x67#8] ∧
    Completes i s [(s.hl, .read), (s.hl, .write)] fun t =>
      t = { s.after i with a := t.a, f := t.f, mem := t.mem } ∧
      stores s t s.hl
        (BitVec.ofNat 8 (if left then m % 16 * 16 + a % 16 else a % 16 * 16 + m / 16)) ∧
      t.a.toNat = a / 16 * 16 + (if left then m / 16 else m % 16) ∧
      sixFlags t.f =
        { s := decide (128 ≤ t.a.toNat)
          z := decide (t.a.toNat = 0)
          h := false
          pv := evenOnes t.a
          n := false
          c := flagC s.f } ∧
      sameUnused s.f t.f

/-! ### Bits (43_bit.md) -/

/-- BIT b of a register, (HL), (IX+d) and (IY+d): Z and PV tell that the bit is 0, H = 1, N = 0, S and C kept, and
only F changes (43_bit.md R310, R311, R312). -/
def Obligations.BitTestsOneBit : Prop :=
  ∀ (b : BitVec 3) (o : Operand8) (s : State),
    let i := BitOp.bit.instr b o
    let isZero := !(s.operandValue o).getLsbD b.toNat
    encode i = cbBytes (BitOp.bit.opcode b) o ∧
    Completes i s (s.operandReads o) fun t =>
      t = { s.after i with f := t.f } ∧
      sixFlags t.f = { sixFlags s.f with z := isZero, h := true, pv := isZero, n := false } ∧
      sameUnused s.f t.f

/-- SET b and RES b of a register, (HL), (IX+d) and (IY+d): bit b becomes 1 or 0, the seven other bits are kept, and
no flag is written (43_bit.md R315 to R317, R320 to R322). -/
def Obligations.SetAndResWriteOneBit : Prop :=
  ∀ (op : BitOp) (b : BitVec 3) (o : Operand8) (s : State), op = .set ∨ op = .res →
    let i := op.instr b o
    encode i = cbBytes (op.opcode b) o ∧
    Completes i s (s.operandReadsWrites o) fun t =>
      t = { (s.after i).withGeneral t with mem := t.mem } ∧
      ∃ v : Byte, holdsOnly s t o v ∧
        ∀ k < 8, v.getLsbD k = if k = b.toNat then decide (op = .set) else (s.operandValue o).getLsbD k

/-! ### Exchanges and blocks (44_exchange_block.md) -/

/-- EX DE,HL, EXX and EX AF,AF' swap whole registers and change nothing else (44_exchange_block.md R330, R331,
R332). -/
def Obligations.ExchangesSwapRegisters : Prop :=
  ∀ s : State,
    (encode .exDeHl = [0xEB#8] ∧
      exec .exDeHl s = .next { s.after .exDeHl with d := s.h, e := s.l, h := s.d, l := s.e }) ∧
    (encode .exx = [0xD9#8] ∧
      exec .exx s = .next { s.after .exx with
        b := s.b', c := s.c', d := s.d', e := s.e', h := s.h', l := s.l'
        b' := s.b, c' := s.c, d' := s.d, e' := s.e, h' := s.h, l' := s.l }) ∧
    (encode .exAfAf = [0x08#8] ∧
      exec .exAfAf s = .next { s.after .exAfAf with a := s.a', f := s.f', a' := s.a, f' := s.f })

/-- EX (SP),HL, EX (SP),IX and EX (SP),IY: the register takes the word at SP, the word at SP takes the register, SP is
kept, no flag is written (44_exchange_block.md R333, R334). -/
def Obligations.ExchangeWithTopOfStack : Prop :=
  ∀ (reg : TopReg) (s : State),
    let i := reg.instr
    let old := reg.get s
    encode i = reg.bytes ∧
    Completes i s [(s.sp, .read), (s.sp + 1, .read), (s.sp, .write), (s.sp + 1, .write)] fun t =>
      t = { reg.put (s.after i) (s.wordAt s.sp) with mem := t.mem } ∧ reg.get t = s.wordAt s.sp ∧
      stores2 s t s.sp (BitVec.ofNat 8 (old.toNat % 256)) (s.sp + 1) (BitVec.ofNat 8 (old.toNat / 256))

/-- LDI, LDD, LDIR and LDDR: the byte at HL is stored at DE, HL and DE move by one, BC counts down; PV tells that the
new BC is not 0, H = N = 0, S, Z, C kept. The repeating forms leave PC at the instruction while BC is not 0
(44_exchange_block.md R335 to R340). -/
def Obligations.BlockTransferMovesOneByte : Prop :=
  ∀ (up again : Bool) (s : State),
    let i := transferInstr up again
    let more := decide (s.bc.toNat ≠ 1)
    encode i = [0xED#8, 0xA0#8 + (if up then 0 else 8#8) + if again then 0x10#8 else 0] ∧
    Completes i s [(s.hl, .read), (s.de, .write)] fun t =>
      t = { s.after i with
        b := t.b, c := t.c, d := t.d, e := t.e, h := t.h, l := t.l, f := t.f, mem := t.mem, pc := t.pc } ∧
      t.hl = nextWord up s.hl ∧ t.de = nextWord up s.de ∧ t.bc = nextWord false s.bc ∧
      stores s t s.de (s.mem.get s.hl.toNat) ∧
      t.pc = (if again && more then s.pc else s.pcPlus 2) ∧
      sixFlags t.f = { sixFlags s.f with h := false, pv := more, n := false } ∧
      sameUnused s.f t.f

/-- CPI, CPD, CPIR and CPDR: A is compared with the byte at HL, HL moves by one, BC counts down; S, Z and H of the
comparison, PV tells that the new BC is not 0, N = 1, C kept. The repeating forms leave PC at the instruction while BC
is not 0 and the byte did not match (44_exchange_block.md R342 to R346). -/
def Obligations.BlockSearchComparesOneByte : Prop :=
  ∀ (up again : Bool) (s : State),
    let i := searchInstr up again
    let v := (s.mem.get s.hl.toNat).toNat
    let res : Nat := (s.a.toNat + 256 - v) % 256
    let more := decide (s.bc.toNat ≠ 1)
    encode i = [0xED#8, 0xA1#8 + (if up then 0 else 8#8) + if again then 0x10#8 else 0] ∧
    Completes i s [(s.hl, .read)] fun t =>
      t = { s.after i with b := t.b, c := t.c, h := t.h, l := t.l, f := t.f, pc := t.pc } ∧
      t.hl = nextWord up s.hl ∧ t.bc = nextWord false s.bc ∧
      t.pc = (if again && more && decide (s.a.toNat ≠ v) then s.pc else s.pcPlus 2) ∧
      sixFlags t.f =
        { s := decide (128 ≤ res)
          z := decide (s.a.toNat = v)
          h := decide (s.a.toNat % 16 < v % 16)
          pv := more
          n := true
          c := flagC s.f } ∧
      sameUnused s.f t.f

/-- LDIR from BC = n, with n = 65536 for BC = 0, and the full memory: after k < n executions PC is still at the
instruction; after n executions PC is past it, BC = 0, PV = 0, HL and DE have advanced by n, every byte outside the
destination is as before, and, when source and destination do not overlap, the destination holds the n bytes of the
source (44_exchange_block.md R341). -/
def Obligations.LdirCopiesTheBlock : Prop :=
  ∀ s : State, s.mem.size = 65536 →
    let n := if s.bc.toNat = 0 then 65536 else s.bc.toNat
    let source (k : Nat) : Word := s.hl + BitVec.ofNat 16 k
    let dest (k : Nat) : Word := s.de + BitVec.ofNat 16 k
    (∀ k < n, ∃ t, execTimes .ldir k s = .next t ∧ t.pc = s.pc) ∧
    ∃ t, execTimes .ldir n s = .next t ∧ t.pc = s.pcPlus 2 ∧ t.bc = 0 ∧ flagPV t.f = false ∧
      t.hl = s.hl + BitVec.ofNat 16 n ∧ t.de = s.de + BitVec.ofNat 16 n ∧
      (∀ x : Word, (∀ k < n, dest k ≠ x) → t.mem.get x.toNat = s.mem.get x.toNat) ∧
      ((∀ j < n, ∀ k < n, source j ≠ dest k) →
        ∀ k < n, t.mem.get (dest k).toNat = s.mem.get (source k).toNat)

/-! ### Loads, stores and the stack (45_load.md) -/

/-- LD r,r', LD r,n, LD dd,nn, LD IX,nn, LD IY,nn, LD SP,HL, LD SP,IX and LD SP,IY: the destination takes the value and
nothing else changes (45_load.md R360, R361, R385, R386, R393, R394). -/
def Obligations.RegisterAndImmediateLoads : Prop :=
  ∀ s : State,
    (∀ (r r' : Reg8),
      encode (.ldRR r r') = [0x40#8 + 8#8 * r.code + r'.code] ∧
      ∃ t, exec (.ldRR r r') s = .next t ∧ t = (s.after (.ldRR r r')).withGeneral t ∧
        ∀ q, t.reg8 q = if q = r then s.reg8 r' else s.reg8 q) ∧
    (∀ (r : Reg8) (n : Byte),
      encode (.ldRN r n) = [0x06#8 + 8#8 * r.code, n] ∧
      ∃ t, exec (.ldRN r n) s = .next t ∧ t = (s.after (.ldRN r n)).withGeneral t ∧
        ∀ q, t.reg8 q = if q = r then n else s.reg8 q) ∧
    (∀ (p : Pair) (nn : Word),
      encode (.ldDdNn p nn) = [0x01#8 + 16#8 * p.code, loByte nn, hiByte nn] ∧
      ∃ t, exec (.ldDdNn p nn) s = .next t ∧
        t = { (s.after (.ldDdNn p nn)).withGeneral t with sp := t.sp } ∧ t.a = s.a ∧
        ∀ q, t.pair q = if q = p then nn else s.pair q) ∧
    (∀ nn : Word,
      encode (.ldIxNn nn) = [0xDD#8, 0x21#8, loByte nn, hiByte nn] ∧
      exec (.ldIxNn nn) s = .next { s.after (.ldIxNn nn) with ix := nn } ∧
      encode (.ldIyNn nn) = [0xFD#8, 0x21#8, loByte nn, hiByte nn] ∧
      exec (.ldIyNn nn) s = .next { s.after (.ldIyNn nn) with iy := nn }) ∧
    (encode .ldSpHl = [0xF9#8] ∧ exec .ldSpHl s = .next { s.after .ldSpHl with sp := s.hl }) ∧
    (encode .ldSpIx = [0xDD#8, 0xF9#8] ∧ exec .ldSpIx s = .next { s.after .ldSpIx with sp := s.ix }) ∧
    (encode .ldSpIy = [0xFD#8, 0xF9#8] ∧ exec .ldSpIy s = .next { s.after .ldSpIy with sp := s.iy })

/-- LD A,I, LD A,R, LD I,A and LD R,A. The two loads of A set S and Z of the value, H = N = 0, PV to IFF2 and keep C; the
R that LD A,R reads and the R that LD R,A writes are those after the instruction's own count (45_load.md R377 to
R380). -/
def Obligations.SpecialRegisterLoads : Prop :=
  ∀ s : State,
    let flagsOf (v : Byte) : SixFlags :=
      { s := decide (128 ≤ v.toNat), z := decide (v.toNat = 0), h := false, pv := s.iff2, n := false
        c := flagC s.f }
    (encode .ldAI = [0xED#8, 0x57#8] ∧ ∃ t, exec .ldAI s = .next t ∧
      t = { s.after .ldAI with a := s.i, f := t.f } ∧ sixFlags t.f = flagsOf s.i ∧ sameUnused s.f t.f) ∧
    (encode .ldAR = [0xED#8, 0x5F#8] ∧ ∃ t, exec .ldAR s = .next t ∧
      t = { s.after .ldAR with a := t.a, f := t.f } ∧
      t.a.toNat = s.r.toNat / 128 * 128 + (s.r.toNat % 128 + 2) % 128 ∧
      sixFlags t.f = flagsOf t.a ∧ sameUnused s.f t.f) ∧
    (encode .ldIA = [0xED#8, 0x47#8] ∧ exec .ldIA s = .next { s.after .ldIA with i := s.a }) ∧
    (encode .ldRA = [0xED#8, 0x4F#8] ∧ exec .ldRA s = .next { s.after .ldRA with r := s.a })

/-- LD r,(HL), LD r,(IX+d), LD r,(IY+d), LD A,(BC), LD A,(DE) and LD A,(nn): the register takes the byte at the address,
and nothing else changes (45_load.md R362, R363, R368, R369, R370). -/
def Obligations.ByteLoads : Prop :=
  ∀ (form : LoadForm) (s : State),
    let i := form.instr
    let a := form.address s
    encode i = form.bytes ∧
    Completes i s [(a, .read)] fun t =>
      t = (s.after i).withGeneral t ∧
      ∀ q, t.reg8 q = if q = form.dest then s.mem.get a.toNat else s.reg8 q

/-- LD (HL),r, LD (IX+d),r, LD (IY+d),r, LD (HL),n, LD (IX+d),n, LD (IY+d),n, LD (BC),A, LD (DE),A and LD (nn),A: the
byte is stored at the address; every other byte and every register is kept (45_load.md R364 to R367, R371 to
R373). -/
def Obligations.ByteStores : Prop :=
  ∀ (form : StoreForm) (s : State),
    let i := form.instr
    let a := form.address s
    encode i = form.bytes ∧
    Completes i s [(a, .write)] fun t =>
      t = { s.after i with mem := t.mem } ∧ stores s t a (form.value s)

/-- LD HL,(nn), LD dd,(nn), LD IX,(nn) and LD IY,(nn): the register takes the little-endian word at nn and nothing else
changes (45_load.md R387, R388, R389). -/
def Obligations.WordLoads : Prop :=
  ∀ (reg : WordReg) (nn : Word) (s : State),
    let i := reg.load nn
    encode i = reg.loadBytes nn ∧
    Completes i s [(nn, .read), (nn + 1, .read)] fun t =>
      t = reg.put (s.after i) (s.wordAt nn) ∧ reg.get t = s.wordAt nn

/-- LD (nn),HL, LD (nn),dd, LD (nn),IX and LD (nn),IY: the low byte of the register is stored at nn, the high byte at
(nn + 1) mod 65536; every other byte and every register is kept (45_load.md R390, R391, R392). -/
def Obligations.WordStores : Prop :=
  ∀ (reg : WordReg) (nn : Word) (s : State),
    let i := reg.store nn
    let v := (reg.get s).toNat
    encode i = reg.storeBytes nn ∧
    Completes i s [(nn, .write), (nn + 1, .write)] fun t =>
      t = { s.after i with mem := t.mem } ∧
      stores2 s t nn (BitVec.ofNat 8 (v % 256)) (nn + 1) (BitVec.ofNat 8 (v / 256))

/-- PUSH BC, DE, HL, AF, IX and IY: the high byte is stored at SP - 1, the low byte at SP - 2, SP is lower by 2, all
modulo 65536, and nothing else changes (45_load.md R395, R396; 20_memory.md R90). -/
def Obligations.PushStoresTheRegister : Prop :=
  ∀ (reg : StackReg) (s : State),
    let i := reg.push
    encode i = reg.bytes 0xC5#8 ∧
    Completes i s s.pushWrites fun t =>
      t = { s.after i with sp := t.sp, mem := t.mem } ∧ pushed s t (reg.get s)

/-- POP BC, DE, HL, AF, IX and IY: the register takes the word at SP (all eight bits of F for AF), SP is higher by 2
modulo 65536, and nothing else changes (45_load.md R397, R398, R399; 20_memory.md R91). -/
def Obligations.PopLoadsTheRegister : Prop :=
  ∀ (reg : StackReg) (s : State),
    let i := reg.pop
    encode i = reg.bytes 0xC1#8 ∧
    Completes i s s.popReads fun t =>
      t = { reg.put (s.after i) (s.wordAt s.sp) with sp := s.sp + 2 } ∧ reg.get t = s.wordAt s.sp

/-- PUSH of a register and POP of the same register restore it and SP, whatever the register held in between
(20_memory.md R91; 45_load.md R397). -/
def Obligations.PopUndoesPush : Prop :=
  ∀ (reg : StackReg) (s t u v : State) (w : Word), s.alive = true → exec reg.push s = .next t → t.alive = true →
    u = reg.put t w → exec reg.pop u = .next v →
    v.alive = true ∧ reg.get v = reg.get s ∧ v.sp = s.sp ∧ v.mem = t.mem

/-! ### Jumps, calls and returns (46_jump_call_return.md) -/

/-- JP nn, JP cc,nn, JP (HL), JP (IX), JP (IY): PC becomes the target, for JP cc,nn when the condition holds and `next`
when it does not; nothing else changes (46_jump_call_return.md R421, R422, R426, R427; 30_encoding.md R124). -/
def Obligations.AbsoluteJumps : Prop :=
  ∀ s : State,
    (∀ nn : Word,
      encode (.jpNn nn) = [0xC3#8, loByte nn, hiByte nn] ∧
      exec (.jpNn nn) s = .next { s.after (.jpNn nn) with pc := nn }) ∧
    (∀ (cc : Cond) (nn : Word),
      encode (.jpCcNn cc nn) = [0xC2#8 + 8#8 * cc.code, loByte nn, hiByte nn] ∧
      exec (.jpCcNn cc nn) s = .next { s.after (.jpCcNn cc nn) with
        pc := if conditionTrue cc.code.toNat s.f then nn else s.pcPlus 3 }) ∧
    (encode .jpHl = [0xE9#8] ∧ exec .jpHl s = .next { s.after .jpHl with pc := s.hl }) ∧
    (encode .jpIx = [0xDD#8, 0xE9#8] ∧ exec .jpIx s = .next { s.after .jpIx with pc := s.ix }) ∧
    (encode .jpIy = [0xFD#8, 0xE9#8] ∧ exec .jpIy s = .next { s.after .jpIy with pc := s.iy })

/-- JR e, JR j,e and DJNZ e: a taken branch goes to PC0 + 2 plus the displacement read as two's complement, modulo
MEM_SIZE, one not taken to (PC0 + 2) mod MEM_SIZE; DJNZ decrements B modulo 256 and branches when B is not 0; nothing
else changes (46_jump_call_return.md R423, R424, R425). -/
def Obligations.RelativeJumps : Prop :=
  ∀ (s : State) (e : Byte), s.mem.wf = true →
    let disp : Int := if e.toNat < 128 then (e.toNat : Int) else (e.toNat : Int) - 256
    let target (taken : Bool) : Int := (s.pc.toNat + 2 + if taken then disp else 0) % s.mem.size
    (encode (.jrE e) = [0x18#8, e] ∧
      ∃ t, exec (.jrE e) s = .next t ∧ t = { s.after (.jrE e) with pc := t.pc } ∧ (t.pc.toNat : Int) = target true) ∧
    (∀ j : JrCond,
      encode (.jrJE j e) = [0x20#8 + 8#8 * j.code, e] ∧
      ∃ t, exec (.jrJE j e) s = .next t ∧ t = { s.after (.jrJE j e) with pc := t.pc } ∧
        (t.pc.toNat : Int) = target (conditionTrue j.code.toNat s.f)) ∧
    (encode (.djnzE e) = [0x10#8, e] ∧
      ∃ t, exec (.djnzE e) s = .next t ∧ t = { s.after (.djnzE e) with b := t.b, pc := t.pc } ∧
        t.b.toNat = (s.b.toNat + 255) % 256 ∧ (t.pc.toNat : Int) = target (decide (s.b.toNat ≠ 1)))

/-- CALL nn, CALL cc,nn and RST t: the address of the next instruction is pushed and PC becomes the target (t * 8 for
RST); a CALL cc,nn whose condition fails goes to the next instruction and touches neither SP nor memory
(46_jump_call_return.md R430, R431, R440). -/
def Obligations.CallsPushTheReturnAddress : Prop :=
  ∀ s : State,
    (∀ nn : Word,
      encode (.callNn nn) = [0xCD#8, loByte nn, hiByte nn] ∧
      Completes (.callNn nn) s s.pushWrites fun t =>
        t = { s.after (.callNn nn) with pc := nn, sp := t.sp, mem := t.mem } ∧ pushed s t (s.pcPlus 3)) ∧
    (∀ (cc : Cond) (nn : Word),
      encode (.callCcNn cc nn) = [0xC4#8 + 8#8 * cc.code, loByte nn, hiByte nn] ∧
      if conditionTrue cc.code.toNat s.f then
        Completes (.callCcNn cc nn) s s.pushWrites fun t =>
          t = { s.after (.callCcNn cc nn) with pc := nn, sp := t.sp, mem := t.mem } ∧ pushed s t (s.pcPlus 3)
      else exec (.callCcNn cc nn) s = .next (s.after (.callCcNn cc nn))) ∧
    ∀ k : BitVec 3,
      encode (.rstT k) = [0xC7#8 + 8#8 * k.zeroExtend 8] ∧
      Completes (.rstT k) s s.pushWrites fun t =>
        t = { s.after (.rstT k) with pc := BitVec.ofNat 16 (8 * k.toNat), sp := t.sp, mem := t.mem } ∧
        pushed s t (s.pcPlus 1)

/-- RET, RET cc, RETI and RETN: PC becomes the word at SP and SP is higher by 2; RETI and RETN copy IFF2 to IFF1; a
RET cc whose condition fails goes to the next instruction; nothing else changes (46_jump_call_return.md R434 to
R437). The `reti` output of a step that executes RETI is stated by EveryStepHasOneOutcome. -/
def Obligations.ReturnsPopThePc : Prop :=
  ∀ s : State,
    (encode .ret = [0xC9#8] ∧
      Completes .ret s s.popReads fun t => t = { s.after .ret with pc := s.wordAt s.sp, sp := s.sp + 2 }) ∧
    (∀ cc : Cond,
      encode (.retCc cc) = [0xC0#8 + 8#8 * cc.code] ∧
      if conditionTrue cc.code.toNat s.f then
        Completes (.retCc cc) s s.popReads fun t =>
          t = { s.after (.retCc cc) with pc := s.wordAt s.sp, sp := s.sp + 2 }
      else exec (.retCc cc) s = .next (s.after (.retCc cc))) ∧
    (encode .reti = [0xED#8, 0x4D#8] ∧
      Completes .reti s s.popReads fun t =>
        t = { s.after .reti with pc := s.wordAt s.sp, sp := s.sp + 2, iff1 := s.iff2 }) ∧
    (encode .retn = [0xED#8, 0x45#8] ∧
      Completes .retn s s.popReads fun t =>
        t = { s.after .retn with pc := s.wordAt s.sp, sp := s.sp + 2, iff1 := s.iff2 })

/-! ### CPU control and I/O (47_cpu_control.md, 48_io.md) -/

/-- NOP does nothing but the step frame; HALT halts; DI and EI clear and set both flip-flops (EI also leaves the EI
shadow on); IM 0, IM 1 and IM 2 select the mode; nothing else changes. A halted core with no RESET, no NMI and no
accepted INT idles: R counts one M1 cycle and nothing else changes; in particular an INT while IFF1 = 0 does not wake
it (47_cpu_control.md R460 to R463, R466 to R468). -/
def Obligations.CpuControlAndIdling : Prop :=
  ∀ s : State,
    (encode .nop = [0x00#8] ∧ exec .nop s = .next (s.after .nop)) ∧
    (encode .halt = [0x76#8] ∧ exec .halt s = .next { s.after .halt with run := .halted }) ∧
    (encode .di = [0xF3#8] ∧ exec .di s = .next { s.after .di with iff1 := false, iff2 := false }) ∧
    (encode .ei = [0xFB#8] ∧
      exec .ei s = .next { s.after .ei with iff1 := true, iff2 := true, eiShadow := true }) ∧
    (encode .im0 = [0xED#8, 0x46#8] ∧ exec .im0 s = .next { s.after .im0 with im := .im0 }) ∧
    (encode .im1 = [0xED#8, 0x56#8] ∧ exec .im1 s = .next { s.after .im1 with im := .im1 }) ∧
    (encode .im2 = [0xED#8, 0x5E#8] ∧ exec .im2 s = .next { s.after .im2 with im := .im2 }) ∧
    (s.run = .halted → s.nextInputs.reset = false → s.nmiNext = false → s.intNext = false →
      ∃ t, step s = .next t ∧ t.outcome = some .idle ∧ t.arch = { s.arch with r := incR 1 s.r })

/-- Every I/O instruction raises Unimplemented(IoNotInCore, PC0, bytes) with the bytes of the whole instruction, and
the state is otherwise the state before it (48_io.md R480 to R492). -/
def Obligations.IoInstructionsAreUnimplemented : Prop :=
  ∀ s : State,
    let refuses (i : Instr) (bytes : List Byte) : Prop :=
      exec i s = .next { s with run := .faulted (.unimplemented .ioNotInCore s.pc bytes) }
    (∀ n : Byte, refuses (.inAN n) [0xDB#8, n] ∧ refuses (.outNA n) [0xD3#8, n]) ∧
    (∀ r : Reg8, refuses (.inRC r) [0xED#8, 0x40#8 + 8#8 * r.code] ∧
      refuses (.outCR r) [0xED#8, 0x41#8 + 8#8 * r.code]) ∧
    refuses .ini [0xED#8, 0xA2#8] ∧ refuses .ind [0xED#8, 0xAA#8] ∧
    refuses .inir [0xED#8, 0xB2#8] ∧ refuses .indr [0xED#8, 0xBA#8] ∧
    refuses .outi [0xED#8, 0xA3#8] ∧ refuses .outd [0xED#8, 0xAB#8] ∧
    refuses .otir [0xED#8, 0xB3#8] ∧ refuses .otdr [0xED#8, 0xBB#8]
end

