-- ==== Sys2Proof/Laws/Bits.lean ====
section
/-! SUPPORT. Laws of the bit-field and flag operations. -/

namespace Sys2Proof

/-- The bits of `h:l`. -/
theorem getLsbD_promote (h l : Byte) (k : Nat) :
    (promote h l).getLsbD k = if k < 8 then l.getLsbD k else h.getLsbD (k - 8) := by
  have := BitVec.getLsbD_append (x := h) (y := l) (i := k)
  exact this.trans (by by_cases hk : k < 8 <;> simp [hk])

@[simp] theorem getLsbD_hiByte (v : Word) (k : Nat) : (hiByte v).getLsbD k = (decide (k < 8) && v.getLsbD (8 + k)) := by
  simp [hiByte]

@[simp] theorem getLsbD_loByte (v : Word) (k : Nat) : (loByte v).getLsbD k = (decide (k < 8) && v.getLsbD k) := by
  simp [loByte]

@[simp] theorem hiByte_promote (h l : Byte) : hiByte (promote h l) = h := by
  refine BitVec.eq_of_getLsbD_eq fun k hk => ?_
  rw [getLsbD_hiByte, getLsbD_promote, decide_eq_true hk, if_neg (by omega), Nat.add_sub_cancel_left,
    Bool.true_and]

@[simp] theorem loByte_promote (h l : Byte) : loByte (promote h l) = l := by
  refine BitVec.eq_of_getLsbD_eq fun k hk => ?_
  rw [getLsbD_loByte, getLsbD_promote, decide_eq_true hk, if_pos hk, Bool.true_and]

@[simp] theorem promote_hiByte_loByte (v : Word) : promote (hiByte v) (loByte v) = v := by
  refine BitVec.eq_of_getLsbD_eq fun k hk => ?_
  rw [getLsbD_promote]
  split
  · next h => rw [getLsbD_loByte, decide_eq_true h, Bool.true_and]
  · next h =>
    rw [getLsbD_hiByte, decide_eq_true (show k - 8 < 8 by omega), Bool.true_and,
      show 8 + (k - 8) = k by omega]

theorem promote_toNat (h l : Byte) : (promote h l).toNat = h.toNat * 256 + l.toNat := by
  have hl : l.toNat < 2 ^ 8 := l.isLt
  have : (promote h l).toNat = h.toNat <<< 8 ||| l.toNat := BitVec.toNat_append h l
  rw [this, ← Nat.shiftLeft_add_eq_or_of_lt hl, Nat.shiftLeft_eq]

theorem hiByte_toNat (v : Word) : (hiByte v).toNat = v.toNat / 256 := by
  have hv := v.isLt
  simp [hiByte, BitVec.extractLsb'_toNat, Nat.shiftRight_eq_div_pow]
  omega

theorem loByte_toNat (v : Word) : (loByte v).toNat = v.toNat % 256 := by
  simp [loByte, BitVec.extractLsb'_toNat]

namespace Machine

/-! ### The flags after SetFlags -/

theorem getLsbD_byteOfBits_7 : ∀ b7 b6 b5 b4 b3 b2 b1 b0 : Bool,
    (byteOfBits b7 b6 b5 b4 b3 b2 b1 b0).getLsbD 7 = b7 := by decide

theorem getLsbD_byteOfBits_6 : ∀ b7 b6 b5 b4 b3 b2 b1 b0 : Bool,
    (byteOfBits b7 b6 b5 b4 b3 b2 b1 b0).getLsbD 6 = b6 := by decide

theorem getLsbD_byteOfBits_5 : ∀ b7 b6 b5 b4 b3 b2 b1 b0 : Bool,
    (byteOfBits b7 b6 b5 b4 b3 b2 b1 b0).getLsbD 5 = b5 := by decide

theorem getLsbD_byteOfBits_4 : ∀ b7 b6 b5 b4 b3 b2 b1 b0 : Bool,
    (byteOfBits b7 b6 b5 b4 b3 b2 b1 b0).getLsbD 4 = b4 := by decide

theorem getLsbD_byteOfBits_3 : ∀ b7 b6 b5 b4 b3 b2 b1 b0 : Bool,
    (byteOfBits b7 b6 b5 b4 b3 b2 b1 b0).getLsbD 3 = b3 := by decide

theorem getLsbD_byteOfBits_2 : ∀ b7 b6 b5 b4 b3 b2 b1 b0 : Bool,
    (byteOfBits b7 b6 b5 b4 b3 b2 b1 b0).getLsbD 2 = b2 := by decide

theorem getLsbD_byteOfBits_1 : ∀ b7 b6 b5 b4 b3 b2 b1 b0 : Bool,
    (byteOfBits b7 b6 b5 b4 b3 b2 b1 b0).getLsbD 1 = b1 := by decide

theorem getLsbD_byteOfBits_0 : ∀ b7 b6 b5 b4 b3 b2 b1 b0 : Bool,
    (byteOfBits b7 b6 b5 b4 b3 b2 b1 b0).getLsbD 0 = b0 := by decide

@[simp] theorem flagS_setFlags (f : Byte) (e : FlagEffect) : flagS (setFlags f e) = e.s.getD (flagS f) :=
  getLsbD_byteOfBits_7 ..

@[simp] theorem flagZ_setFlags (f : Byte) (e : FlagEffect) : flagZ (setFlags f e) = e.z.getD (flagZ f) :=
  getLsbD_byteOfBits_6 ..

@[simp] theorem flag5_setFlags (f : Byte) (e : FlagEffect) : flag5 (setFlags f e) = flag5 f :=
  getLsbD_byteOfBits_5 ..

@[simp] theorem flagH_setFlags (f : Byte) (e : FlagEffect) : flagH (setFlags f e) = e.h.getD (flagH f) :=
  getLsbD_byteOfBits_4 ..

@[simp] theorem flag3_setFlags (f : Byte) (e : FlagEffect) : flag3 (setFlags f e) = flag3 f :=
  getLsbD_byteOfBits_3 ..

@[simp] theorem flagPV_setFlags (f : Byte) (e : FlagEffect) : flagPV (setFlags f e) = e.pv.getD (flagPV f) :=
  getLsbD_byteOfBits_2 ..

@[simp] theorem flagN_setFlags (f : Byte) (e : FlagEffect) : flagN (setFlags f e) = e.n.getD (flagN f) :=
  getLsbD_byteOfBits_1 ..

@[simp] theorem flagC_setFlags (f : Byte) (e : FlagEffect) : flagC (setFlags f e) = e.c.getD (flagC f) :=
  getLsbD_byteOfBits_0 ..

/-- Two values of F with the same eight bits are equal. -/
theorem flags_ext {f g : Byte} (hs : flagS f = flagS g) (hz : flagZ f = flagZ g) (h5 : flag5 f = flag5 g)
    (hh : flagH f = flagH g) (h3 : flag3 f = flag3 g) (hp : flagPV f = flagPV g) (hn : flagN f = flagN g)
    (hc : flagC f = flagC g) : f = g := by
  refine BitVec.eq_of_getLsbD_eq fun k hk => ?_
  simp only [flagS, flagZ, flag5, flagH, flag3, flagPV, flagN, flagC] at *
  match k, hk with
  | 0, _ => exact hc
  | 1, _ => exact hn
  | 2, _ => exact hp
  | 3, _ => exact h3
  | 4, _ => exact hh
  | 5, _ => exact h5
  | 6, _ => exact hz
  | 7, _ => exact hs

/-- An effect that gives no flag keeps F. -/
@[simp] theorem setFlags_none (f : Byte) : setFlags f {} = f := by
  apply flags_ext <;> simp

/-! ### Arithmetic results -/

theorem addCarry_toNat {w : Nat} (lo : Nat) (a b : BitVec w) (cin : Bool) :
    (addCarry lo a b cin).r.toNat = (a.toNat + b.toNat + cin.toNat) % 2 ^ w := by
  simp [addCarry, BitVec.toNat_ofNat]

theorem addCarry_c {w : Nat} (lo : Nat) (a b : BitVec w) (cin : Bool) :
    (addCarry lo a b cin).c = decide (2 ^ w ≤ a.toNat + b.toNat + cin.toNat) := rfl

theorem subBorrow_toNat {w : Nat} (lo : Nat) (a b : BitVec w) (cin : Bool) :
    ((subBorrow lo a b cin).r.toNat : Int) = ((a.toNat : Int) - b.toNat - cin.toNat) % 2 ^ w := by
  simp only [subBorrow, BitVec.toNat_ofInt]
  rw [Int.toNat_of_nonneg (Int.emod_nonneg _ (by positivity))]
  norm_cast

theorem subBorrow_c {w : Nat} (lo : Nat) (a b : BitVec w) (cin : Bool) :
    (subBorrow lo a b cin).c = decide (a.toNat < b.toNat + cin.toNat) := by
  simp only [subBorrow, decide_eq_decide]
  omega

end Machine
end Sys2Proof
end

