-- ==== Sys2Proof/Laws/Flags.lean ====
section
/-! SUPPORT. The flag engine in integer terms: sign, overflow and borrow as comparisons of exact sums and
differences (10_state.md R44 to R48). -/

namespace Sys2Proof.Machine

theorem bool_toNat_le (c : Bool) : c.toNat ≤ 1 := by cases c <;> decide

theorem byte_toInt (a : Byte) : a.toInt = if 128 ≤ a.toNat then (a.toNat : Int) - 256 else a.toNat := by
  have := a.isLt
  rw [BitVec.toInt_eq_toNat_cond]
  norm_num
  split <;> split <;> omega

theorem word_toInt (a : Word) : a.toInt = if 32768 ≤ a.toNat then (a.toNat : Int) - 65536 else a.toNat := by
  have := a.isLt
  rw [BitVec.toInt_eq_toNat_cond]
  norm_num
  split <;> split <;> omega

/-- S of a byte: bit 7 (R42). -/
theorem byte_msb (a : Byte) : a.msb = decide (128 ≤ a.toNat) := by simp [BitVec.msb_eq_decide]

/-- S of a word: bit 15 (R42). -/
theorem word_msb (a : Word) : a.msb = decide (32768 ≤ a.toNat) := by simp [BitVec.msb_eq_decide]

/-- Z: the value is zero (R42). -/
theorem beq_zero_toNat {w : Nat} (a : BitVec w) : (a == 0) = decide (a.toNat = 0) := by
  rw [Bool.eq_iff_iff, beq_iff_eq, decide_eq_true_eq, ← BitVec.toNat_inj]
  simp

/-- The overflow of an 8-bit addition: the signed sum leaves -128..127 (R44). -/
theorem add8_v (a b : Byte) (c : Bool) :
    (add8 a b c).v = decide (a.toInt + b.toInt + c.toNat < -128 ∨ 127 < a.toInt + b.toInt + c.toNat) := by
  have ha := a.isLt
  have hb := b.isLt
  have hc := bool_toNat_le c
  have hr := addCarry_toNat 4 a b c
  have hv : (add8 a b c).v = ((a.msb == b.msb) && ((addCarry 4 a b c).r.msb != a.msb)) := rfl
  rw [hv, byte_msb, byte_msb, byte_msb, byte_toInt, byte_toInt, hr]
  generalize c.toNat = k at *
  by_cases h1 : 128 ≤ a.toNat <;> by_cases h2 : 128 ≤ b.toNat <;>
    by_cases h3 : 128 ≤ (a.toNat + b.toNat + k) % 2 ^ 8 <;>
    simp only [h1, h2, h3, decide_true, decide_false, if_true, if_false] <;> simp <;> omega

/-- The overflow of an 8-bit subtraction (R45). -/
theorem sub8_v (a b : Byte) (c : Bool) :
    (sub8 a b c).v = decide (a.toInt - b.toInt - c.toNat < -128 ∨ 127 < a.toInt - b.toInt - c.toNat) := by
  have ha := a.isLt
  have hb := b.isLt
  have hc := bool_toNat_le c
  have hr := subBorrow_toNat 4 a b c
  have hv : (sub8 a b c).v = ((a.msb != b.msb) && ((subBorrow 4 a b c).r.msb != a.msb)) := rfl
  rw [hv, byte_msb, byte_msb, byte_msb, byte_toInt, byte_toInt]
  generalize c.toNat = k at *
  generalize (subBorrow 4 a b c).r.toNat = r at *
  by_cases h1 : 128 ≤ a.toNat <;> by_cases h2 : 128 ≤ b.toNat <;> by_cases h3 : 128 ≤ r <;>
    simp only [h1, h2, h3, decide_true, decide_false, if_true, if_false] <;> simp <;> omega

/-- The overflow of a 16-bit addition (R46). -/
theorem add16_v (a b : Word) (c : Bool) :
    (add16 a b c).v = decide (a.toInt + b.toInt + c.toNat < -32768 ∨ 32767 < a.toInt + b.toInt + c.toNat) := by
  have ha := a.isLt
  have hb := b.isLt
  have hc := bool_toNat_le c
  have hr := addCarry_toNat 12 a b c
  have hv : (add16 a b c).v = ((a.msb == b.msb) && ((addCarry 12 a b c).r.msb != a.msb)) := rfl
  rw [hv, word_msb, word_msb, word_msb, word_toInt, word_toInt, hr]
  generalize c.toNat = k at *
  by_cases h1 : 32768 ≤ a.toNat <;> by_cases h2 : 32768 ≤ b.toNat <;>
    by_cases h3 : 32768 ≤ (a.toNat + b.toNat + k) % 2 ^ 16 <;>
    simp only [h1, h2, h3, decide_true, decide_false, if_true, if_false] <;> simp <;> omega

/-- The overflow of a 16-bit subtraction (R47). -/
theorem sub16_v (a b : Word) (c : Bool) :
    (sub16 a b c).v = decide (a.toInt - b.toInt - c.toNat < -32768 ∨ 32767 < a.toInt - b.toInt - c.toNat) := by
  have ha := a.isLt
  have hb := b.isLt
  have hc := bool_toNat_le c
  have hr := subBorrow_toNat 12 a b c
  have hv : (sub16 a b c).v = ((a.msb != b.msb) && ((subBorrow 12 a b c).r.msb != a.msb)) := rfl
  rw [hv, word_msb, word_msb, word_msb, word_toInt, word_toInt]
  generalize c.toNat = k at *
  generalize (subBorrow 12 a b c).r.toNat = r at *
  by_cases h1 : 32768 ≤ a.toNat <;> by_cases h2 : 32768 ≤ b.toNat <;> by_cases h3 : 32768 ≤ r <;>
    simp only [h1, h2, h3, decide_true, decide_false, if_true, if_false] <;> simp <;> omega

/-- The half-carry of an addition with its carry-in (R44, R46). -/
theorem addCarry_h {w : Nat} (lo : Nat) (a b : BitVec w) (c : Bool) :
    (addCarry lo a b c).h = decide (2 ^ lo ≤ a.toNat % 2 ^ lo + b.toNat % 2 ^ lo + c.toNat) := rfl

/-- The half-borrow of a subtraction with its borrow-in (R45, R47). -/
theorem subBorrow_h {w : Nat} (lo : Nat) (a b : BitVec w) (c : Bool) :
    (subBorrow lo a b c).h = decide (a.toNat % 2 ^ lo < b.toNat % 2 ^ lo + c.toNat) := by
  simp only [subBorrow, decide_eq_decide]
  omega

end Sys2Proof.Machine
end

