-- ==== Sys2Proof/Laws/Memory.lean ====
section
/-! SUPPORT. Laws of the memory buffer: a read after a write, a write leaves every other byte, and every write keeps
the canonical form. -/

namespace Sys2Proof.Machine

theorem lookupCell_filter_same (l : List Host.Cell) (a : Nat) :
    lookupCell (l.filter (fun cell => cell.1 != a)) a = 0 := by
  induction l with
  | nil => rfl
  | cons x rest ih =>
    obtain ⟨k, v⟩ := x
    by_cases h : k = a <;> simp [h, lookupCell, ih]

theorem lookupCell_filter_ne (l : List Host.Cell) {a b : Nat} (h : b ≠ a) :
    lookupCell (l.filter (fun cell => cell.1 != a)) b = lookupCell l b := by
  induction l with
  | nil => rfl
  | cons x rest ih =>
    obtain ⟨k, v⟩ := x
    by_cases hk : k = a
    · have : a ≠ b := fun e => h e.symm
      simp [hk, lookupCell, ih, this]
    · simp [hk, lookupCell, ih]

theorem lookupCell_insert_same (l : List Host.Cell) (a : Nat) (v : Byte) (h : ∀ x ∈ l, x.1 ≠ a) :
    lookupCell (insertCell a v l) a = v := by
  induction l with
  | nil => simp [insertCell, lookupCell]
  | cons x rest ih =>
    obtain ⟨k, w⟩ := x
    have hk : k ≠ a := h (k, w) (by simp)
    by_cases hlt : a < k
    · simp [insertCell, hlt, lookupCell]
    · simp [insertCell, hlt, lookupCell, hk, ih (fun x hx => h x (by simp [hx]))]

theorem lookupCell_insert_ne (l : List Host.Cell) {a b : Nat} (v : Byte) (h : b ≠ a) :
    lookupCell (insertCell a v l) b = lookupCell l b := by
  have hab : a ≠ b := fun e => h e.symm
  induction l with
  | nil => simp [insertCell, lookupCell, hab]
  | cons x rest ih =>
    obtain ⟨k, w⟩ := x
    by_cases hlt : a < k
    · simp [insertCell, hlt, lookupCell, hab]
    · simp [insertCell, hlt, lookupCell, ih]

/-- Reading back the byte just written. -/
@[simp] theorem Memory.get_set_same (m : Memory) (a : Nat) (v : Byte) : (m.set a v).get a = v := by
  simp only [Memory.set, Memory.get]
  split
  · next h => rw [lookupCell_filter_same, h]
  · exact lookupCell_insert_same _ _ _ (by intro x hx; simpa using (List.mem_filter.mp hx).2)

/-- A write leaves every other byte alone. -/
theorem Memory.get_set_ne (m : Memory) {a b : Nat} (v : Byte) (h : b ≠ a) : (m.set a v).get b = m.get b := by
  simp only [Memory.set, Memory.get]
  split
  · exact lookupCell_filter_ne _ h
  · rw [lookupCell_insert_ne _ _ h, lookupCell_filter_ne _ h]

theorem Memory.get_set (m : Memory) (a b : Nat) (v : Byte) :
    (m.set a v).get b = if b = a then v else m.get b := by
  split
  · next h => rw [h, Memory.get_set_same]
  · next h => exact Memory.get_set_ne m v h

@[simp] theorem Memory.size_set (m : Memory) (a : Nat) (v : Byte) : (m.set a v).size = m.size := rfl

/-! ### The canonical form -/

theorem cellsSorted_iff (l : List Host.Cell) :
    cellsSorted l = true ↔ l.Pairwise (fun x y => x.1 < y.1) := by
  induction l with
  | nil => simp [cellsSorted]
  | cons x rest ih =>
    obtain ⟨a, v⟩ := x
    cases rest with
    | nil => simp [cellsSorted]
    | cons y tail =>
      obtain ⟨b, w⟩ := y
      simp only [cellsSorted, Bool.and_eq_true, decide_eq_true_eq, ih, List.pairwise_cons]
      constructor
      · rintro ⟨hab, hb, ht⟩
        refine ⟨?_, hb, ht⟩
        intro z hz
        rcases List.mem_cons.mp hz with rfl | hz
        · exact hab
        · exact lt_trans hab (hb z hz)
      · rintro ⟨ha, hb, ht⟩
        exact ⟨ha (b, w) (by simp), hb, ht⟩

theorem mem_insertCell {l : List Host.Cell} {a : Nat} {v : Byte} {x : Host.Cell} :
    x ∈ insertCell a v l ↔ x = (a, v) ∨ x ∈ l := by
  induction l with
  | nil => simp [insertCell]
  | cons y rest ih =>
    obtain ⟨k, w⟩ := y
    by_cases h : a < k
    · simp [insertCell, h]
    · simp only [insertCell, h, if_false, List.mem_cons, ih]
      tauto

theorem pairwise_insertCell {l : List Host.Cell} {a : Nat} {v : Byte} (h : ∀ x ∈ l, x.1 ≠ a)
    (hl : l.Pairwise (fun x y => x.1 < y.1)) : (insertCell a v l).Pairwise (fun x y => x.1 < y.1) := by
  induction l with
  | nil => simp [insertCell]
  | cons y rest ih =>
    obtain ⟨k, w⟩ := y
    have hk : k ≠ a := h (k, w) (by simp)
    rw [List.pairwise_cons] at hl
    by_cases hlt : a < k
    · simp only [insertCell, hlt, if_true, List.pairwise_cons]
      refine ⟨?_, hl⟩
      intro x hx
      rcases List.mem_cons.mp hx with rfl | hx
      · exact hlt
      · exact lt_trans hlt (hl.1 x hx)
    · simp only [insertCell, hlt, if_false, List.pairwise_cons]
      refine ⟨?_, ih (fun x hx => h x (by simp [hx])) hl.2⟩
      intro x hx
      rcases mem_insertCell.mp hx with rfl | hx
      · show k < a
        omega
      · exact hl.1 x hx

/-- Every write inside the buffer keeps the canonical form. -/
theorem Memory.wf_set {m : Memory} {a : Nat} (v : Byte) (ha : a < m.size) (h : m.wf = true) :
    (m.set a v).wf = true := by
  simp only [Memory.wf, Bool.and_eq_true, decide_eq_true_eq, cellsSorted_iff, List.all_eq_true, bne_iff_ne] at h ⊢
  obtain ⟨⟨⟨h1, h2⟩, hs⟩, hc⟩ := h
  have hf := hs.filter (fun cell => cell.1 != a)
  have hcf : ∀ x ∈ m.cells.filter (fun cell => cell.1 != a), x.1 < m.size ∧ x.2 ≠ 0 :=
    fun x hx => hc x (List.mem_filter.mp hx).1
  simp only [Memory.set]
  by_cases hv : v = 0
  · simp only [hv, if_true]
    exact ⟨⟨⟨h1, h2⟩, hf⟩, hcf⟩
  · simp only [hv, if_false]
    refine ⟨⟨⟨h1, h2⟩, pairwise_insertCell (fun x hx => by simpa using (List.mem_filter.mp hx).2) hf⟩, ?_⟩
    intro x hx
    rcases mem_insertCell.mp hx with rfl | hx
    · exact ⟨ha, hv⟩
    · exact hcf x hx

/-- The memory at construction is canonical. -/
theorem reset_mem_wf : State.reset.mem.wf = true := by decide

end Sys2Proof.Machine
end

