-- ==== Sys2Proof/Laws/State.lean ====
section
/-! SUPPORT. One lemma per field for each named update of State: what it writes and what it leaves. -/

namespace Sys2Proof.Machine.State


/-! ### setAF -/

@[simp] theorem setAF_a (s : State) (v : Word) : (s.setAF v).a = hiByte v := rfl
@[simp] theorem setAF_f (s : State) (v : Word) : (s.setAF v).f = loByte v := rfl
@[simp] theorem setAF_b (s : State) (v : Word) : (s.setAF v).b = s.b := rfl
@[simp] theorem setAF_c (s : State) (v : Word) : (s.setAF v).c = s.c := rfl
@[simp] theorem setAF_d (s : State) (v : Word) : (s.setAF v).d = s.d := rfl
@[simp] theorem setAF_e (s : State) (v : Word) : (s.setAF v).e = s.e := rfl
@[simp] theorem setAF_h (s : State) (v : Word) : (s.setAF v).h = s.h := rfl
@[simp] theorem setAF_l (s : State) (v : Word) : (s.setAF v).l = s.l := rfl
@[simp] theorem setAF_a_shadow (s : State) (v : Word) : (s.setAF v).a' = s.a' := rfl
@[simp] theorem setAF_f_shadow (s : State) (v : Word) : (s.setAF v).f' = s.f' := rfl
@[simp] theorem setAF_b_shadow (s : State) (v : Word) : (s.setAF v).b' = s.b' := rfl
@[simp] theorem setAF_c_shadow (s : State) (v : Word) : (s.setAF v).c' = s.c' := rfl
@[simp] theorem setAF_d_shadow (s : State) (v : Word) : (s.setAF v).d' = s.d' := rfl
@[simp] theorem setAF_e_shadow (s : State) (v : Word) : (s.setAF v).e' = s.e' := rfl
@[simp] theorem setAF_h_shadow (s : State) (v : Word) : (s.setAF v).h' = s.h' := rfl
@[simp] theorem setAF_l_shadow (s : State) (v : Word) : (s.setAF v).l' = s.l' := rfl
@[simp] theorem setAF_ix (s : State) (v : Word) : (s.setAF v).ix = s.ix := rfl
@[simp] theorem setAF_iy (s : State) (v : Word) : (s.setAF v).iy = s.iy := rfl
@[simp] theorem setAF_sp (s : State) (v : Word) : (s.setAF v).sp = s.sp := rfl
@[simp] theorem setAF_pc (s : State) (v : Word) : (s.setAF v).pc = s.pc := rfl
@[simp] theorem setAF_i (s : State) (v : Word) : (s.setAF v).i = s.i := rfl
@[simp] theorem setAF_r (s : State) (v : Word) : (s.setAF v).r = s.r := rfl
@[simp] theorem setAF_iff1 (s : State) (v : Word) : (s.setAF v).iff1 = s.iff1 := rfl
@[simp] theorem setAF_iff2 (s : State) (v : Word) : (s.setAF v).iff2 = s.iff2 := rfl
@[simp] theorem setAF_im (s : State) (v : Word) : (s.setAF v).im = s.im := rfl
@[simp] theorem setAF_run (s : State) (v : Word) : (s.setAF v).run = s.run := rfl
@[simp] theorem setAF_eiShadow (s : State) (v : Word) : (s.setAF v).eiShadow = s.eiShadow := rfl
@[simp] theorem setAF_nmiPending (s : State) (v : Word) : (s.setAF v).nmiPending = s.nmiPending := rfl
@[simp] theorem setAF_mem (s : State) (v : Word) : (s.setAF v).mem = s.mem := rfl
@[simp] theorem setAF_inputs (s : State) (v : Word) : (s.setAF v).inputs = s.inputs := rfl
@[simp] theorem setAF_outcome (s : State) (v : Word) : (s.setAF v).outcome = s.outcome := rfl

/-! ### setBC -/

@[simp] theorem setBC_a (s : State) (v : Word) : (s.setBC v).a = s.a := rfl
@[simp] theorem setBC_f (s : State) (v : Word) : (s.setBC v).f = s.f := rfl
@[simp] theorem setBC_b (s : State) (v : Word) : (s.setBC v).b = hiByte v := rfl
@[simp] theorem setBC_c (s : State) (v : Word) : (s.setBC v).c = loByte v := rfl
@[simp] theorem setBC_d (s : State) (v : Word) : (s.setBC v).d = s.d := rfl
@[simp] theorem setBC_e (s : State) (v : Word) : (s.setBC v).e = s.e := rfl
@[simp] theorem setBC_h (s : State) (v : Word) : (s.setBC v).h = s.h := rfl
@[simp] theorem setBC_l (s : State) (v : Word) : (s.setBC v).l = s.l := rfl
@[simp] theorem setBC_a_shadow (s : State) (v : Word) : (s.setBC v).a' = s.a' := rfl
@[simp] theorem setBC_f_shadow (s : State) (v : Word) : (s.setBC v).f' = s.f' := rfl
@[simp] theorem setBC_b_shadow (s : State) (v : Word) : (s.setBC v).b' = s.b' := rfl
@[simp] theorem setBC_c_shadow (s : State) (v : Word) : (s.setBC v).c' = s.c' := rfl
@[simp] theorem setBC_d_shadow (s : State) (v : Word) : (s.setBC v).d' = s.d' := rfl
@[simp] theorem setBC_e_shadow (s : State) (v : Word) : (s.setBC v).e' = s.e' := rfl
@[simp] theorem setBC_h_shadow (s : State) (v : Word) : (s.setBC v).h' = s.h' := rfl
@[simp] theorem setBC_l_shadow (s : State) (v : Word) : (s.setBC v).l' = s.l' := rfl
@[simp] theorem setBC_ix (s : State) (v : Word) : (s.setBC v).ix = s.ix := rfl
@[simp] theorem setBC_iy (s : State) (v : Word) : (s.setBC v).iy = s.iy := rfl
@[simp] theorem setBC_sp (s : State) (v : Word) : (s.setBC v).sp = s.sp := rfl
@[simp] theorem setBC_pc (s : State) (v : Word) : (s.setBC v).pc = s.pc := rfl
@[simp] theorem setBC_i (s : State) (v : Word) : (s.setBC v).i = s.i := rfl
@[simp] theorem setBC_r (s : State) (v : Word) : (s.setBC v).r = s.r := rfl
@[simp] theorem setBC_iff1 (s : State) (v : Word) : (s.setBC v).iff1 = s.iff1 := rfl
@[simp] theorem setBC_iff2 (s : State) (v : Word) : (s.setBC v).iff2 = s.iff2 := rfl
@[simp] theorem setBC_im (s : State) (v : Word) : (s.setBC v).im = s.im := rfl
@[simp] theorem setBC_run (s : State) (v : Word) : (s.setBC v).run = s.run := rfl
@[simp] theorem setBC_eiShadow (s : State) (v : Word) : (s.setBC v).eiShadow = s.eiShadow := rfl
@[simp] theorem setBC_nmiPending (s : State) (v : Word) : (s.setBC v).nmiPending = s.nmiPending := rfl
@[simp] theorem setBC_mem (s : State) (v : Word) : (s.setBC v).mem = s.mem := rfl
@[simp] theorem setBC_inputs (s : State) (v : Word) : (s.setBC v).inputs = s.inputs := rfl
@[simp] theorem setBC_outcome (s : State) (v : Word) : (s.setBC v).outcome = s.outcome := rfl

/-! ### setDE -/

@[simp] theorem setDE_a (s : State) (v : Word) : (s.setDE v).a = s.a := rfl
@[simp] theorem setDE_f (s : State) (v : Word) : (s.setDE v).f = s.f := rfl
@[simp] theorem setDE_b (s : State) (v : Word) : (s.setDE v).b = s.b := rfl
@[simp] theorem setDE_c (s : State) (v : Word) : (s.setDE v).c = s.c := rfl
@[simp] theorem setDE_d (s : State) (v : Word) : (s.setDE v).d = hiByte v := rfl
@[simp] theorem setDE_e (s : State) (v : Word) : (s.setDE v).e = loByte v := rfl
@[simp] theorem setDE_h (s : State) (v : Word) : (s.setDE v).h = s.h := rfl
@[simp] theorem setDE_l (s : State) (v : Word) : (s.setDE v).l = s.l := rfl
@[simp] theorem setDE_a_shadow (s : State) (v : Word) : (s.setDE v).a' = s.a' := rfl
@[simp] theorem setDE_f_shadow (s : State) (v : Word) : (s.setDE v).f' = s.f' := rfl
@[simp] theorem setDE_b_shadow (s : State) (v : Word) : (s.setDE v).b' = s.b' := rfl
@[simp] theorem setDE_c_shadow (s : State) (v : Word) : (s.setDE v).c' = s.c' := rfl
@[simp] theorem setDE_d_shadow (s : State) (v : Word) : (s.setDE v).d' = s.d' := rfl
@[simp] theorem setDE_e_shadow (s : State) (v : Word) : (s.setDE v).e' = s.e' := rfl
@[simp] theorem setDE_h_shadow (s : State) (v : Word) : (s.setDE v).h' = s.h' := rfl
@[simp] theorem setDE_l_shadow (s : State) (v : Word) : (s.setDE v).l' = s.l' := rfl
@[simp] theorem setDE_ix (s : State) (v : Word) : (s.setDE v).ix = s.ix := rfl
@[simp] theorem setDE_iy (s : State) (v : Word) : (s.setDE v).iy = s.iy := rfl
@[simp] theorem setDE_sp (s : State) (v : Word) : (s.setDE v).sp = s.sp := rfl
@[simp] theorem setDE_pc (s : State) (v : Word) : (s.setDE v).pc = s.pc := rfl
@[simp] theorem setDE_i (s : State) (v : Word) : (s.setDE v).i = s.i := rfl
@[simp] theorem setDE_r (s : State) (v : Word) : (s.setDE v).r = s.r := rfl
@[simp] theorem setDE_iff1 (s : State) (v : Word) : (s.setDE v).iff1 = s.iff1 := rfl
@[simp] theorem setDE_iff2 (s : State) (v : Word) : (s.setDE v).iff2 = s.iff2 := rfl
@[simp] theorem setDE_im (s : State) (v : Word) : (s.setDE v).im = s.im := rfl
@[simp] theorem setDE_run (s : State) (v : Word) : (s.setDE v).run = s.run := rfl
@[simp] theorem setDE_eiShadow (s : State) (v : Word) : (s.setDE v).eiShadow = s.eiShadow := rfl
@[simp] theorem setDE_nmiPending (s : State) (v : Word) : (s.setDE v).nmiPending = s.nmiPending := rfl
@[simp] theorem setDE_mem (s : State) (v : Word) : (s.setDE v).mem = s.mem := rfl
@[simp] theorem setDE_inputs (s : State) (v : Word) : (s.setDE v).inputs = s.inputs := rfl
@[simp] theorem setDE_outcome (s : State) (v : Word) : (s.setDE v).outcome = s.outcome := rfl

/-! ### setHL -/

@[simp] theorem setHL_a (s : State) (v : Word) : (s.setHL v).a = s.a := rfl
@[simp] theorem setHL_f (s : State) (v : Word) : (s.setHL v).f = s.f := rfl
@[simp] theorem setHL_b (s : State) (v : Word) : (s.setHL v).b = s.b := rfl
@[simp] theorem setHL_c (s : State) (v : Word) : (s.setHL v).c = s.c := rfl
@[simp] theorem setHL_d (s : State) (v : Word) : (s.setHL v).d = s.d := rfl
@[simp] theorem setHL_e (s : State) (v : Word) : (s.setHL v).e = s.e := rfl
@[simp] theorem setHL_h (s : State) (v : Word) : (s.setHL v).h = hiByte v := rfl
@[simp] theorem setHL_l (s : State) (v : Word) : (s.setHL v).l = loByte v := rfl
@[simp] theorem setHL_a_shadow (s : State) (v : Word) : (s.setHL v).a' = s.a' := rfl
@[simp] theorem setHL_f_shadow (s : State) (v : Word) : (s.setHL v).f' = s.f' := rfl
@[simp] theorem setHL_b_shadow (s : State) (v : Word) : (s.setHL v).b' = s.b' := rfl
@[simp] theorem setHL_c_shadow (s : State) (v : Word) : (s.setHL v).c' = s.c' := rfl
@[simp] theorem setHL_d_shadow (s : State) (v : Word) : (s.setHL v).d' = s.d' := rfl
@[simp] theorem setHL_e_shadow (s : State) (v : Word) : (s.setHL v).e' = s.e' := rfl
@[simp] theorem setHL_h_shadow (s : State) (v : Word) : (s.setHL v).h' = s.h' := rfl
@[simp] theorem setHL_l_shadow (s : State) (v : Word) : (s.setHL v).l' = s.l' := rfl
@[simp] theorem setHL_ix (s : State) (v : Word) : (s.setHL v).ix = s.ix := rfl
@[simp] theorem setHL_iy (s : State) (v : Word) : (s.setHL v).iy = s.iy := rfl
@[simp] theorem setHL_sp (s : State) (v : Word) : (s.setHL v).sp = s.sp := rfl
@[simp] theorem setHL_pc (s : State) (v : Word) : (s.setHL v).pc = s.pc := rfl
@[simp] theorem setHL_i (s : State) (v : Word) : (s.setHL v).i = s.i := rfl
@[simp] theorem setHL_r (s : State) (v : Word) : (s.setHL v).r = s.r := rfl
@[simp] theorem setHL_iff1 (s : State) (v : Word) : (s.setHL v).iff1 = s.iff1 := rfl
@[simp] theorem setHL_iff2 (s : State) (v : Word) : (s.setHL v).iff2 = s.iff2 := rfl
@[simp] theorem setHL_im (s : State) (v : Word) : (s.setHL v).im = s.im := rfl
@[simp] theorem setHL_run (s : State) (v : Word) : (s.setHL v).run = s.run := rfl
@[simp] theorem setHL_eiShadow (s : State) (v : Word) : (s.setHL v).eiShadow = s.eiShadow := rfl
@[simp] theorem setHL_nmiPending (s : State) (v : Word) : (s.setHL v).nmiPending = s.nmiPending := rfl
@[simp] theorem setHL_mem (s : State) (v : Word) : (s.setHL v).mem = s.mem := rfl
@[simp] theorem setHL_inputs (s : State) (v : Word) : (s.setHL v).inputs = s.inputs := rfl
@[simp] theorem setHL_outcome (s : State) (v : Word) : (s.setHL v).outcome = s.outcome := rfl

/-! ### setAF' -/

@[simp] theorem setAF'_a (s : State) (v : Word) : (s.setAF' v).a = s.a := rfl
@[simp] theorem setAF'_f (s : State) (v : Word) : (s.setAF' v).f = s.f := rfl
@[simp] theorem setAF'_b (s : State) (v : Word) : (s.setAF' v).b = s.b := rfl
@[simp] theorem setAF'_c (s : State) (v : Word) : (s.setAF' v).c = s.c := rfl
@[simp] theorem setAF'_d (s : State) (v : Word) : (s.setAF' v).d = s.d := rfl
@[simp] theorem setAF'_e (s : State) (v : Word) : (s.setAF' v).e = s.e := rfl
@[simp] theorem setAF'_h (s : State) (v : Word) : (s.setAF' v).h = s.h := rfl
@[simp] theorem setAF'_l (s : State) (v : Word) : (s.setAF' v).l = s.l := rfl
@[simp] theorem setAF'_a_shadow (s : State) (v : Word) : (s.setAF' v).a' = hiByte v := rfl
@[simp] theorem setAF'_f_shadow (s : State) (v : Word) : (s.setAF' v).f' = loByte v := rfl
@[simp] theorem setAF'_b_shadow (s : State) (v : Word) : (s.setAF' v).b' = s.b' := rfl
@[simp] theorem setAF'_c_shadow (s : State) (v : Word) : (s.setAF' v).c' = s.c' := rfl
@[simp] theorem setAF'_d_shadow (s : State) (v : Word) : (s.setAF' v).d' = s.d' := rfl
@[simp] theorem setAF'_e_shadow (s : State) (v : Word) : (s.setAF' v).e' = s.e' := rfl
@[simp] theorem setAF'_h_shadow (s : State) (v : Word) : (s.setAF' v).h' = s.h' := rfl
@[simp] theorem setAF'_l_shadow (s : State) (v : Word) : (s.setAF' v).l' = s.l' := rfl
@[simp] theorem setAF'_ix (s : State) (v : Word) : (s.setAF' v).ix = s.ix := rfl
@[simp] theorem setAF'_iy (s : State) (v : Word) : (s.setAF' v).iy = s.iy := rfl
@[simp] theorem setAF'_sp (s : State) (v : Word) : (s.setAF' v).sp = s.sp := rfl
@[simp] theorem setAF'_pc (s : State) (v : Word) : (s.setAF' v).pc = s.pc := rfl
@[simp] theorem setAF'_i (s : State) (v : Word) : (s.setAF' v).i = s.i := rfl
@[simp] theorem setAF'_r (s : State) (v : Word) : (s.setAF' v).r = s.r := rfl
@[simp] theorem setAF'_iff1 (s : State) (v : Word) : (s.setAF' v).iff1 = s.iff1 := rfl
@[simp] theorem setAF'_iff2 (s : State) (v : Word) : (s.setAF' v).iff2 = s.iff2 := rfl
@[simp] theorem setAF'_im (s : State) (v : Word) : (s.setAF' v).im = s.im := rfl
@[simp] theorem setAF'_run (s : State) (v : Word) : (s.setAF' v).run = s.run := rfl
@[simp] theorem setAF'_eiShadow (s : State) (v : Word) : (s.setAF' v).eiShadow = s.eiShadow := rfl
@[simp] theorem setAF'_nmiPending (s : State) (v : Word) : (s.setAF' v).nmiPending = s.nmiPending := rfl
@[simp] theorem setAF'_mem (s : State) (v : Word) : (s.setAF' v).mem = s.mem := rfl
@[simp] theorem setAF'_inputs (s : State) (v : Word) : (s.setAF' v).inputs = s.inputs := rfl
@[simp] theorem setAF'_outcome (s : State) (v : Word) : (s.setAF' v).outcome = s.outcome := rfl

/-! ### setBC' -/

@[simp] theorem setBC'_a (s : State) (v : Word) : (s.setBC' v).a = s.a := rfl
@[simp] theorem setBC'_f (s : State) (v : Word) : (s.setBC' v).f = s.f := rfl
@[simp] theorem setBC'_b (s : State) (v : Word) : (s.setBC' v).b = s.b := rfl
@[simp] theorem setBC'_c (s : State) (v : Word) : (s.setBC' v).c = s.c := rfl
@[simp] theorem setBC'_d (s : State) (v : Word) : (s.setBC' v).d = s.d := rfl
@[simp] theorem setBC'_e (s : State) (v : Word) : (s.setBC' v).e = s.e := rfl
@[simp] theorem setBC'_h (s : State) (v : Word) : (s.setBC' v).h = s.h := rfl
@[simp] theorem setBC'_l (s : State) (v : Word) : (s.setBC' v).l = s.l := rfl
@[simp] theorem setBC'_a_shadow (s : State) (v : Word) : (s.setBC' v).a' = s.a' := rfl
@[simp] theorem setBC'_f_shadow (s : State) (v : Word) : (s.setBC' v).f' = s.f' := rfl
@[simp] theorem setBC'_b_shadow (s : State) (v : Word) : (s.setBC' v).b' = hiByte v := rfl
@[simp] theorem setBC'_c_shadow (s : State) (v : Word) : (s.setBC' v).c' = loByte v := rfl
@[simp] theorem setBC'_d_shadow (s : State) (v : Word) : (s.setBC' v).d' = s.d' := rfl
@[simp] theorem setBC'_e_shadow (s : State) (v : Word) : (s.setBC' v).e' = s.e' := rfl
@[simp] theorem setBC'_h_shadow (s : State) (v : Word) : (s.setBC' v).h' = s.h' := rfl
@[simp] theorem setBC'_l_shadow (s : State) (v : Word) : (s.setBC' v).l' = s.l' := rfl
@[simp] theorem setBC'_ix (s : State) (v : Word) : (s.setBC' v).ix = s.ix := rfl
@[simp] theorem setBC'_iy (s : State) (v : Word) : (s.setBC' v).iy = s.iy := rfl
@[simp] theorem setBC'_sp (s : State) (v : Word) : (s.setBC' v).sp = s.sp := rfl
@[simp] theorem setBC'_pc (s : State) (v : Word) : (s.setBC' v).pc = s.pc := rfl
@[simp] theorem setBC'_i (s : State) (v : Word) : (s.setBC' v).i = s.i := rfl
@[simp] theorem setBC'_r (s : State) (v : Word) : (s.setBC' v).r = s.r := rfl
@[simp] theorem setBC'_iff1 (s : State) (v : Word) : (s.setBC' v).iff1 = s.iff1 := rfl
@[simp] theorem setBC'_iff2 (s : State) (v : Word) : (s.setBC' v).iff2 = s.iff2 := rfl
@[simp] theorem setBC'_im (s : State) (v : Word) : (s.setBC' v).im = s.im := rfl
@[simp] theorem setBC'_run (s : State) (v : Word) : (s.setBC' v).run = s.run := rfl
@[simp] theorem setBC'_eiShadow (s : State) (v : Word) : (s.setBC' v).eiShadow = s.eiShadow := rfl
@[simp] theorem setBC'_nmiPending (s : State) (v : Word) : (s.setBC' v).nmiPending = s.nmiPending := rfl
@[simp] theorem setBC'_mem (s : State) (v : Word) : (s.setBC' v).mem = s.mem := rfl
@[simp] theorem setBC'_inputs (s : State) (v : Word) : (s.setBC' v).inputs = s.inputs := rfl
@[simp] theorem setBC'_outcome (s : State) (v : Word) : (s.setBC' v).outcome = s.outcome := rfl

/-! ### setDE' -/

@[simp] theorem setDE'_a (s : State) (v : Word) : (s.setDE' v).a = s.a := rfl
@[simp] theorem setDE'_f (s : State) (v : Word) : (s.setDE' v).f = s.f := rfl
@[simp] theorem setDE'_b (s : State) (v : Word) : (s.setDE' v).b = s.b := rfl
@[simp] theorem setDE'_c (s : State) (v : Word) : (s.setDE' v).c = s.c := rfl
@[simp] theorem setDE'_d (s : State) (v : Word) : (s.setDE' v).d = s.d := rfl
@[simp] theorem setDE'_e (s : State) (v : Word) : (s.setDE' v).e = s.e := rfl
@[simp] theorem setDE'_h (s : State) (v : Word) : (s.setDE' v).h = s.h := rfl
@[simp] theorem setDE'_l (s : State) (v : Word) : (s.setDE' v).l = s.l := rfl
@[simp] theorem setDE'_a_shadow (s : State) (v : Word) : (s.setDE' v).a' = s.a' := rfl
@[simp] theorem setDE'_f_shadow (s : State) (v : Word) : (s.setDE' v).f' = s.f' := rfl
@[simp] theorem setDE'_b_shadow (s : State) (v : Word) : (s.setDE' v).b' = s.b' := rfl
@[simp] theorem setDE'_c_shadow (s : State) (v : Word) : (s.setDE' v).c' = s.c' := rfl
@[simp] theorem setDE'_d_shadow (s : State) (v : Word) : (s.setDE' v).d' = hiByte v := rfl
@[simp] theorem setDE'_e_shadow (s : State) (v : Word) : (s.setDE' v).e' = loByte v := rfl
@[simp] theorem setDE'_h_shadow (s : State) (v : Word) : (s.setDE' v).h' = s.h' := rfl
@[simp] theorem setDE'_l_shadow (s : State) (v : Word) : (s.setDE' v).l' = s.l' := rfl
@[simp] theorem setDE'_ix (s : State) (v : Word) : (s.setDE' v).ix = s.ix := rfl
@[simp] theorem setDE'_iy (s : State) (v : Word) : (s.setDE' v).iy = s.iy := rfl
@[simp] theorem setDE'_sp (s : State) (v : Word) : (s.setDE' v).sp = s.sp := rfl
@[simp] theorem setDE'_pc (s : State) (v : Word) : (s.setDE' v).pc = s.pc := rfl
@[simp] theorem setDE'_i (s : State) (v : Word) : (s.setDE' v).i = s.i := rfl
@[simp] theorem setDE'_r (s : State) (v : Word) : (s.setDE' v).r = s.r := rfl
@[simp] theorem setDE'_iff1 (s : State) (v : Word) : (s.setDE' v).iff1 = s.iff1 := rfl
@[simp] theorem setDE'_iff2 (s : State) (v : Word) : (s.setDE' v).iff2 = s.iff2 := rfl
@[simp] theorem setDE'_im (s : State) (v : Word) : (s.setDE' v).im = s.im := rfl
@[simp] theorem setDE'_run (s : State) (v : Word) : (s.setDE' v).run = s.run := rfl
@[simp] theorem setDE'_eiShadow (s : State) (v : Word) : (s.setDE' v).eiShadow = s.eiShadow := rfl
@[simp] theorem setDE'_nmiPending (s : State) (v : Word) : (s.setDE' v).nmiPending = s.nmiPending := rfl
@[simp] theorem setDE'_mem (s : State) (v : Word) : (s.setDE' v).mem = s.mem := rfl
@[simp] theorem setDE'_inputs (s : State) (v : Word) : (s.setDE' v).inputs = s.inputs := rfl
@[simp] theorem setDE'_outcome (s : State) (v : Word) : (s.setDE' v).outcome = s.outcome := rfl

/-! ### setHL' -/

@[simp] theorem setHL'_a (s : State) (v : Word) : (s.setHL' v).a = s.a := rfl
@[simp] theorem setHL'_f (s : State) (v : Word) : (s.setHL' v).f = s.f := rfl
@[simp] theorem setHL'_b (s : State) (v : Word) : (s.setHL' v).b = s.b := rfl
@[simp] theorem setHL'_c (s : State) (v : Word) : (s.setHL' v).c = s.c := rfl
@[simp] theorem setHL'_d (s : State) (v : Word) : (s.setHL' v).d = s.d := rfl
@[simp] theorem setHL'_e (s : State) (v : Word) : (s.setHL' v).e = s.e := rfl
@[simp] theorem setHL'_h (s : State) (v : Word) : (s.setHL' v).h = s.h := rfl
@[simp] theorem setHL'_l (s : State) (v : Word) : (s.setHL' v).l = s.l := rfl
@[simp] theorem setHL'_a_shadow (s : State) (v : Word) : (s.setHL' v).a' = s.a' := rfl
@[simp] theorem setHL'_f_shadow (s : State) (v : Word) : (s.setHL' v).f' = s.f' := rfl
@[simp] theorem setHL'_b_shadow (s : State) (v : Word) : (s.setHL' v).b' = s.b' := rfl
@[simp] theorem setHL'_c_shadow (s : State) (v : Word) : (s.setHL' v).c' = s.c' := rfl
@[simp] theorem setHL'_d_shadow (s : State) (v : Word) : (s.setHL' v).d' = s.d' := rfl
@[simp] theorem setHL'_e_shadow (s : State) (v : Word) : (s.setHL' v).e' = s.e' := rfl
@[simp] theorem setHL'_h_shadow (s : State) (v : Word) : (s.setHL' v).h' = hiByte v := rfl
@[simp] theorem setHL'_l_shadow (s : State) (v : Word) : (s.setHL' v).l' = loByte v := rfl
@[simp] theorem setHL'_ix (s : State) (v : Word) : (s.setHL' v).ix = s.ix := rfl
@[simp] theorem setHL'_iy (s : State) (v : Word) : (s.setHL' v).iy = s.iy := rfl
@[simp] theorem setHL'_sp (s : State) (v : Word) : (s.setHL' v).sp = s.sp := rfl
@[simp] theorem setHL'_pc (s : State) (v : Word) : (s.setHL' v).pc = s.pc := rfl
@[simp] theorem setHL'_i (s : State) (v : Word) : (s.setHL' v).i = s.i := rfl
@[simp] theorem setHL'_r (s : State) (v : Word) : (s.setHL' v).r = s.r := rfl
@[simp] theorem setHL'_iff1 (s : State) (v : Word) : (s.setHL' v).iff1 = s.iff1 := rfl
@[simp] theorem setHL'_iff2 (s : State) (v : Word) : (s.setHL' v).iff2 = s.iff2 := rfl
@[simp] theorem setHL'_im (s : State) (v : Word) : (s.setHL' v).im = s.im := rfl
@[simp] theorem setHL'_run (s : State) (v : Word) : (s.setHL' v).run = s.run := rfl
@[simp] theorem setHL'_eiShadow (s : State) (v : Word) : (s.setHL' v).eiShadow = s.eiShadow := rfl
@[simp] theorem setHL'_nmiPending (s : State) (v : Word) : (s.setHL' v).nmiPending = s.nmiPending := rfl
@[simp] theorem setHL'_mem (s : State) (v : Word) : (s.setHL' v).mem = s.mem := rfl
@[simp] theorem setHL'_inputs (s : State) (v : Word) : (s.setHL' v).inputs = s.inputs := rfl
@[simp] theorem setHL'_outcome (s : State) (v : Word) : (s.setHL' v).outcome = s.outcome := rfl

/-! ### setReg8 -/

@[simp] theorem setReg8_a (s : State) (r : Reg8) (v : Byte) : (s.setReg8 r v).a = if r = .a then v else s.a := by cases r <;> rfl
@[simp] theorem setReg8_f (s : State) (r : Reg8) (v : Byte) : (s.setReg8 r v).f = s.f := by cases r <;> rfl
@[simp] theorem setReg8_b (s : State) (r : Reg8) (v : Byte) : (s.setReg8 r v).b = if r = .b then v else s.b := by cases r <;> rfl
@[simp] theorem setReg8_c (s : State) (r : Reg8) (v : Byte) : (s.setReg8 r v).c = if r = .c then v else s.c := by cases r <;> rfl
@[simp] theorem setReg8_d (s : State) (r : Reg8) (v : Byte) : (s.setReg8 r v).d = if r = .d then v else s.d := by cases r <;> rfl
@[simp] theorem setReg8_e (s : State) (r : Reg8) (v : Byte) : (s.setReg8 r v).e = if r = .e then v else s.e := by cases r <;> rfl
@[simp] theorem setReg8_h (s : State) (r : Reg8) (v : Byte) : (s.setReg8 r v).h = if r = .h then v else s.h := by cases r <;> rfl
@[simp] theorem setReg8_l (s : State) (r : Reg8) (v : Byte) : (s.setReg8 r v).l = if r = .l then v else s.l := by cases r <;> rfl
@[simp] theorem setReg8_a_shadow (s : State) (r : Reg8) (v : Byte) : (s.setReg8 r v).a' = s.a' := by cases r <;> rfl
@[simp] theorem setReg8_f_shadow (s : State) (r : Reg8) (v : Byte) : (s.setReg8 r v).f' = s.f' := by cases r <;> rfl
@[simp] theorem setReg8_b_shadow (s : State) (r : Reg8) (v : Byte) : (s.setReg8 r v).b' = s.b' := by cases r <;> rfl
@[simp] theorem setReg8_c_shadow (s : State) (r : Reg8) (v : Byte) : (s.setReg8 r v).c' = s.c' := by cases r <;> rfl
@[simp] theorem setReg8_d_shadow (s : State) (r : Reg8) (v : Byte) : (s.setReg8 r v).d' = s.d' := by cases r <;> rfl
@[simp] theorem setReg8_e_shadow (s : State) (r : Reg8) (v : Byte) : (s.setReg8 r v).e' = s.e' := by cases r <;> rfl
@[simp] theorem setReg8_h_shadow (s : State) (r : Reg8) (v : Byte) : (s.setReg8 r v).h' = s.h' := by cases r <;> rfl
@[simp] theorem setReg8_l_shadow (s : State) (r : Reg8) (v : Byte) : (s.setReg8 r v).l' = s.l' := by cases r <;> rfl
@[simp] theorem setReg8_ix (s : State) (r : Reg8) (v : Byte) : (s.setReg8 r v).ix = s.ix := by cases r <;> rfl
@[simp] theorem setReg8_iy (s : State) (r : Reg8) (v : Byte) : (s.setReg8 r v).iy = s.iy := by cases r <;> rfl
@[simp] theorem setReg8_sp (s : State) (r : Reg8) (v : Byte) : (s.setReg8 r v).sp = s.sp := by cases r <;> rfl
@[simp] theorem setReg8_pc (s : State) (r : Reg8) (v : Byte) : (s.setReg8 r v).pc = s.pc := by cases r <;> rfl
@[simp] theorem setReg8_i (s : State) (r : Reg8) (v : Byte) : (s.setReg8 r v).i = s.i := by cases r <;> rfl
@[simp] theorem setReg8_r (s : State) (r : Reg8) (v : Byte) : (s.setReg8 r v).r = s.r := by cases r <;> rfl
@[simp] theorem setReg8_iff1 (s : State) (r : Reg8) (v : Byte) : (s.setReg8 r v).iff1 = s.iff1 := by cases r <;> rfl
@[simp] theorem setReg8_iff2 (s : State) (r : Reg8) (v : Byte) : (s.setReg8 r v).iff2 = s.iff2 := by cases r <;> rfl
@[simp] theorem setReg8_im (s : State) (r : Reg8) (v : Byte) : (s.setReg8 r v).im = s.im := by cases r <;> rfl
@[simp] theorem setReg8_run (s : State) (r : Reg8) (v : Byte) : (s.setReg8 r v).run = s.run := by cases r <;> rfl
@[simp] theorem setReg8_eiShadow (s : State) (r : Reg8) (v : Byte) : (s.setReg8 r v).eiShadow = s.eiShadow := by cases r <;> rfl
@[simp] theorem setReg8_nmiPending (s : State) (r : Reg8) (v : Byte) : (s.setReg8 r v).nmiPending = s.nmiPending := by cases r <;> rfl
@[simp] theorem setReg8_mem (s : State) (r : Reg8) (v : Byte) : (s.setReg8 r v).mem = s.mem := by cases r <;> rfl
@[simp] theorem setReg8_inputs (s : State) (r : Reg8) (v : Byte) : (s.setReg8 r v).inputs = s.inputs := by cases r <;> rfl
@[simp] theorem setReg8_outcome (s : State) (r : Reg8) (v : Byte) : (s.setReg8 r v).outcome = s.outcome := by cases r <;> rfl

/-! ### setPair -/

@[simp] theorem setPair_a (s : State) (p : Pair) (v : Word) : (s.setPair p v).a = s.a := by cases p <;> rfl
@[simp] theorem setPair_f (s : State) (p : Pair) (v : Word) : (s.setPair p v).f = s.f := by cases p <;> rfl
@[simp] theorem setPair_b (s : State) (p : Pair) (v : Word) : (s.setPair p v).b = if p = .bc then hiByte v else s.b := by cases p <;> rfl
@[simp] theorem setPair_c (s : State) (p : Pair) (v : Word) : (s.setPair p v).c = if p = .bc then loByte v else s.c := by cases p <;> rfl
@[simp] theorem setPair_d (s : State) (p : Pair) (v : Word) : (s.setPair p v).d = if p = .de then hiByte v else s.d := by cases p <;> rfl
@[simp] theorem setPair_e (s : State) (p : Pair) (v : Word) : (s.setPair p v).e = if p = .de then loByte v else s.e := by cases p <;> rfl
@[simp] theorem setPair_h (s : State) (p : Pair) (v : Word) : (s.setPair p v).h = if p = .hl then hiByte v else s.h := by cases p <;> rfl
@[simp] theorem setPair_l (s : State) (p : Pair) (v : Word) : (s.setPair p v).l = if p = .hl then loByte v else s.l := by cases p <;> rfl
@[simp] theorem setPair_a_shadow (s : State) (p : Pair) (v : Word) : (s.setPair p v).a' = s.a' := by cases p <;> rfl
@[simp] theorem setPair_f_shadow (s : State) (p : Pair) (v : Word) : (s.setPair p v).f' = s.f' := by cases p <;> rfl
@[simp] theorem setPair_b_shadow (s : State) (p : Pair) (v : Word) : (s.setPair p v).b' = s.b' := by cases p <;> rfl
@[simp] theorem setPair_c_shadow (s : State) (p : Pair) (v : Word) : (s.setPair p v).c' = s.c' := by cases p <;> rfl
@[simp] theorem setPair_d_shadow (s : State) (p : Pair) (v : Word) : (s.setPair p v).d' = s.d' := by cases p <;> rfl
@[simp] theorem setPair_e_shadow (s : State) (p : Pair) (v : Word) : (s.setPair p v).e' = s.e' := by cases p <;> rfl
@[simp] theorem setPair_h_shadow (s : State) (p : Pair) (v : Word) : (s.setPair p v).h' = s.h' := by cases p <;> rfl
@[simp] theorem setPair_l_shadow (s : State) (p : Pair) (v : Word) : (s.setPair p v).l' = s.l' := by cases p <;> rfl
@[simp] theorem setPair_ix (s : State) (p : Pair) (v : Word) : (s.setPair p v).ix = s.ix := by cases p <;> rfl
@[simp] theorem setPair_iy (s : State) (p : Pair) (v : Word) : (s.setPair p v).iy = s.iy := by cases p <;> rfl
@[simp] theorem setPair_sp (s : State) (p : Pair) (v : Word) : (s.setPair p v).sp = if p = .sp then v else s.sp := by cases p <;> rfl
@[simp] theorem setPair_pc (s : State) (p : Pair) (v : Word) : (s.setPair p v).pc = s.pc := by cases p <;> rfl
@[simp] theorem setPair_i (s : State) (p : Pair) (v : Word) : (s.setPair p v).i = s.i := by cases p <;> rfl
@[simp] theorem setPair_r (s : State) (p : Pair) (v : Word) : (s.setPair p v).r = s.r := by cases p <;> rfl
@[simp] theorem setPair_iff1 (s : State) (p : Pair) (v : Word) : (s.setPair p v).iff1 = s.iff1 := by cases p <;> rfl
@[simp] theorem setPair_iff2 (s : State) (p : Pair) (v : Word) : (s.setPair p v).iff2 = s.iff2 := by cases p <;> rfl
@[simp] theorem setPair_im (s : State) (p : Pair) (v : Word) : (s.setPair p v).im = s.im := by cases p <;> rfl
@[simp] theorem setPair_run (s : State) (p : Pair) (v : Word) : (s.setPair p v).run = s.run := by cases p <;> rfl
@[simp] theorem setPair_eiShadow (s : State) (p : Pair) (v : Word) : (s.setPair p v).eiShadow = s.eiShadow := by cases p <;> rfl
@[simp] theorem setPair_nmiPending (s : State) (p : Pair) (v : Word) : (s.setPair p v).nmiPending = s.nmiPending := by cases p <;> rfl
@[simp] theorem setPair_mem (s : State) (p : Pair) (v : Word) : (s.setPair p v).mem = s.mem := by cases p <;> rfl
@[simp] theorem setPair_inputs (s : State) (p : Pair) (v : Word) : (s.setPair p v).inputs = s.inputs := by cases p <;> rfl
@[simp] theorem setPair_outcome (s : State) (p : Pair) (v : Word) : (s.setPair p v).outcome = s.outcome := by cases p <;> rfl

/-! ### setPairQ -/

@[simp] theorem setPairQ_a (s : State) (p : PairQ) (v : Word) : (s.setPairQ p v).a = if p = .af then hiByte v else s.a := by cases p <;> rfl
@[simp] theorem setPairQ_f (s : State) (p : PairQ) (v : Word) : (s.setPairQ p v).f = if p = .af then loByte v else s.f := by cases p <;> rfl
@[simp] theorem setPairQ_b (s : State) (p : PairQ) (v : Word) : (s.setPairQ p v).b = if p = .bc then hiByte v else s.b := by cases p <;> rfl
@[simp] theorem setPairQ_c (s : State) (p : PairQ) (v : Word) : (s.setPairQ p v).c = if p = .bc then loByte v else s.c := by cases p <;> rfl
@[simp] theorem setPairQ_d (s : State) (p : PairQ) (v : Word) : (s.setPairQ p v).d = if p = .de then hiByte v else s.d := by cases p <;> rfl
@[simp] theorem setPairQ_e (s : State) (p : PairQ) (v : Word) : (s.setPairQ p v).e = if p = .de then loByte v else s.e := by cases p <;> rfl
@[simp] theorem setPairQ_h (s : State) (p : PairQ) (v : Word) : (s.setPairQ p v).h = if p = .hl then hiByte v else s.h := by cases p <;> rfl
@[simp] theorem setPairQ_l (s : State) (p : PairQ) (v : Word) : (s.setPairQ p v).l = if p = .hl then loByte v else s.l := by cases p <;> rfl
@[simp] theorem setPairQ_a_shadow (s : State) (p : PairQ) (v : Word) : (s.setPairQ p v).a' = s.a' := by cases p <;> rfl
@[simp] theorem setPairQ_f_shadow (s : State) (p : PairQ) (v : Word) : (s.setPairQ p v).f' = s.f' := by cases p <;> rfl
@[simp] theorem setPairQ_b_shadow (s : State) (p : PairQ) (v : Word) : (s.setPairQ p v).b' = s.b' := by cases p <;> rfl
@[simp] theorem setPairQ_c_shadow (s : State) (p : PairQ) (v : Word) : (s.setPairQ p v).c' = s.c' := by cases p <;> rfl
@[simp] theorem setPairQ_d_shadow (s : State) (p : PairQ) (v : Word) : (s.setPairQ p v).d' = s.d' := by cases p <;> rfl
@[simp] theorem setPairQ_e_shadow (s : State) (p : PairQ) (v : Word) : (s.setPairQ p v).e' = s.e' := by cases p <;> rfl
@[simp] theorem setPairQ_h_shadow (s : State) (p : PairQ) (v : Word) : (s.setPairQ p v).h' = s.h' := by cases p <;> rfl
@[simp] theorem setPairQ_l_shadow (s : State) (p : PairQ) (v : Word) : (s.setPairQ p v).l' = s.l' := by cases p <;> rfl
@[simp] theorem setPairQ_ix (s : State) (p : PairQ) (v : Word) : (s.setPairQ p v).ix = s.ix := by cases p <;> rfl
@[simp] theorem setPairQ_iy (s : State) (p : PairQ) (v : Word) : (s.setPairQ p v).iy = s.iy := by cases p <;> rfl
@[simp] theorem setPairQ_sp (s : State) (p : PairQ) (v : Word) : (s.setPairQ p v).sp = s.sp := by cases p <;> rfl
@[simp] theorem setPairQ_pc (s : State) (p : PairQ) (v : Word) : (s.setPairQ p v).pc = s.pc := by cases p <;> rfl
@[simp] theorem setPairQ_i (s : State) (p : PairQ) (v : Word) : (s.setPairQ p v).i = s.i := by cases p <;> rfl
@[simp] theorem setPairQ_r (s : State) (p : PairQ) (v : Word) : (s.setPairQ p v).r = s.r := by cases p <;> rfl
@[simp] theorem setPairQ_iff1 (s : State) (p : PairQ) (v : Word) : (s.setPairQ p v).iff1 = s.iff1 := by cases p <;> rfl
@[simp] theorem setPairQ_iff2 (s : State) (p : PairQ) (v : Word) : (s.setPairQ p v).iff2 = s.iff2 := by cases p <;> rfl
@[simp] theorem setPairQ_im (s : State) (p : PairQ) (v : Word) : (s.setPairQ p v).im = s.im := by cases p <;> rfl
@[simp] theorem setPairQ_run (s : State) (p : PairQ) (v : Word) : (s.setPairQ p v).run = s.run := by cases p <;> rfl
@[simp] theorem setPairQ_eiShadow (s : State) (p : PairQ) (v : Word) : (s.setPairQ p v).eiShadow = s.eiShadow := by cases p <;> rfl
@[simp] theorem setPairQ_nmiPending (s : State) (p : PairQ) (v : Word) : (s.setPairQ p v).nmiPending = s.nmiPending := by cases p <;> rfl
@[simp] theorem setPairQ_mem (s : State) (p : PairQ) (v : Word) : (s.setPairQ p v).mem = s.mem := by cases p <;> rfl
@[simp] theorem setPairQ_inputs (s : State) (p : PairQ) (v : Word) : (s.setPairQ p v).inputs = s.inputs := by cases p <;> rfl
@[simp] theorem setPairQ_outcome (s : State) (p : PairQ) (v : Word) : (s.setPairQ p v).outcome = s.outcome := by cases p <;> rfl

/-! ### setIndex -/

@[simp] theorem setIndex_a (s : State) (x : IndexReg) (v : Word) : (s.setIndex x v).a = s.a := by cases x <;> rfl
@[simp] theorem setIndex_f (s : State) (x : IndexReg) (v : Word) : (s.setIndex x v).f = s.f := by cases x <;> rfl
@[simp] theorem setIndex_b (s : State) (x : IndexReg) (v : Word) : (s.setIndex x v).b = s.b := by cases x <;> rfl
@[simp] theorem setIndex_c (s : State) (x : IndexReg) (v : Word) : (s.setIndex x v).c = s.c := by cases x <;> rfl
@[simp] theorem setIndex_d (s : State) (x : IndexReg) (v : Word) : (s.setIndex x v).d = s.d := by cases x <;> rfl
@[simp] theorem setIndex_e (s : State) (x : IndexReg) (v : Word) : (s.setIndex x v).e = s.e := by cases x <;> rfl
@[simp] theorem setIndex_h (s : State) (x : IndexReg) (v : Word) : (s.setIndex x v).h = s.h := by cases x <;> rfl
@[simp] theorem setIndex_l (s : State) (x : IndexReg) (v : Word) : (s.setIndex x v).l = s.l := by cases x <;> rfl
@[simp] theorem setIndex_a_shadow (s : State) (x : IndexReg) (v : Word) : (s.setIndex x v).a' = s.a' := by cases x <;> rfl
@[simp] theorem setIndex_f_shadow (s : State) (x : IndexReg) (v : Word) : (s.setIndex x v).f' = s.f' := by cases x <;> rfl
@[simp] theorem setIndex_b_shadow (s : State) (x : IndexReg) (v : Word) : (s.setIndex x v).b' = s.b' := by cases x <;> rfl
@[simp] theorem setIndex_c_shadow (s : State) (x : IndexReg) (v : Word) : (s.setIndex x v).c' = s.c' := by cases x <;> rfl
@[simp] theorem setIndex_d_shadow (s : State) (x : IndexReg) (v : Word) : (s.setIndex x v).d' = s.d' := by cases x <;> rfl
@[simp] theorem setIndex_e_shadow (s : State) (x : IndexReg) (v : Word) : (s.setIndex x v).e' = s.e' := by cases x <;> rfl
@[simp] theorem setIndex_h_shadow (s : State) (x : IndexReg) (v : Word) : (s.setIndex x v).h' = s.h' := by cases x <;> rfl
@[simp] theorem setIndex_l_shadow (s : State) (x : IndexReg) (v : Word) : (s.setIndex x v).l' = s.l' := by cases x <;> rfl
@[simp] theorem setIndex_ix (s : State) (x : IndexReg) (v : Word) : (s.setIndex x v).ix = if x = .ix then v else s.ix := by cases x <;> rfl
@[simp] theorem setIndex_iy (s : State) (x : IndexReg) (v : Word) : (s.setIndex x v).iy = if x = .iy then v else s.iy := by cases x <;> rfl
@[simp] theorem setIndex_sp (s : State) (x : IndexReg) (v : Word) : (s.setIndex x v).sp = s.sp := by cases x <;> rfl
@[simp] theorem setIndex_pc (s : State) (x : IndexReg) (v : Word) : (s.setIndex x v).pc = s.pc := by cases x <;> rfl
@[simp] theorem setIndex_i (s : State) (x : IndexReg) (v : Word) : (s.setIndex x v).i = s.i := by cases x <;> rfl
@[simp] theorem setIndex_r (s : State) (x : IndexReg) (v : Word) : (s.setIndex x v).r = s.r := by cases x <;> rfl
@[simp] theorem setIndex_iff1 (s : State) (x : IndexReg) (v : Word) : (s.setIndex x v).iff1 = s.iff1 := by cases x <;> rfl
@[simp] theorem setIndex_iff2 (s : State) (x : IndexReg) (v : Word) : (s.setIndex x v).iff2 = s.iff2 := by cases x <;> rfl
@[simp] theorem setIndex_im (s : State) (x : IndexReg) (v : Word) : (s.setIndex x v).im = s.im := by cases x <;> rfl
@[simp] theorem setIndex_run (s : State) (x : IndexReg) (v : Word) : (s.setIndex x v).run = s.run := by cases x <;> rfl
@[simp] theorem setIndex_eiShadow (s : State) (x : IndexReg) (v : Word) : (s.setIndex x v).eiShadow = s.eiShadow := by cases x <;> rfl
@[simp] theorem setIndex_nmiPending (s : State) (x : IndexReg) (v : Word) : (s.setIndex x v).nmiPending = s.nmiPending := by cases x <;> rfl
@[simp] theorem setIndex_mem (s : State) (x : IndexReg) (v : Word) : (s.setIndex x v).mem = s.mem := by cases x <;> rfl
@[simp] theorem setIndex_inputs (s : State) (x : IndexReg) (v : Word) : (s.setIndex x v).inputs = s.inputs := by cases x <;> rfl
@[simp] theorem setIndex_outcome (s : State) (x : IndexReg) (v : Word) : (s.setIndex x v).outcome = s.outcome := by cases x <;> rfl

/-! ### flags -/

@[simp] theorem flags_a (s : State) (x : FlagEffect) : (s.flags x).a = s.a := rfl
@[simp] theorem flags_f (s : State) (x : FlagEffect) : (s.flags x).f = setFlags s.f x := rfl
@[simp] theorem flags_b (s : State) (x : FlagEffect) : (s.flags x).b = s.b := rfl
@[simp] theorem flags_c (s : State) (x : FlagEffect) : (s.flags x).c = s.c := rfl
@[simp] theorem flags_d (s : State) (x : FlagEffect) : (s.flags x).d = s.d := rfl
@[simp] theorem flags_e (s : State) (x : FlagEffect) : (s.flags x).e = s.e := rfl
@[simp] theorem flags_h (s : State) (x : FlagEffect) : (s.flags x).h = s.h := rfl
@[simp] theorem flags_l (s : State) (x : FlagEffect) : (s.flags x).l = s.l := rfl
@[simp] theorem flags_a_shadow (s : State) (x : FlagEffect) : (s.flags x).a' = s.a' := rfl
@[simp] theorem flags_f_shadow (s : State) (x : FlagEffect) : (s.flags x).f' = s.f' := rfl
@[simp] theorem flags_b_shadow (s : State) (x : FlagEffect) : (s.flags x).b' = s.b' := rfl
@[simp] theorem flags_c_shadow (s : State) (x : FlagEffect) : (s.flags x).c' = s.c' := rfl
@[simp] theorem flags_d_shadow (s : State) (x : FlagEffect) : (s.flags x).d' = s.d' := rfl
@[simp] theorem flags_e_shadow (s : State) (x : FlagEffect) : (s.flags x).e' = s.e' := rfl
@[simp] theorem flags_h_shadow (s : State) (x : FlagEffect) : (s.flags x).h' = s.h' := rfl
@[simp] theorem flags_l_shadow (s : State) (x : FlagEffect) : (s.flags x).l' = s.l' := rfl
@[simp] theorem flags_ix (s : State) (x : FlagEffect) : (s.flags x).ix = s.ix := rfl
@[simp] theorem flags_iy (s : State) (x : FlagEffect) : (s.flags x).iy = s.iy := rfl
@[simp] theorem flags_sp (s : State) (x : FlagEffect) : (s.flags x).sp = s.sp := rfl
@[simp] theorem flags_pc (s : State) (x : FlagEffect) : (s.flags x).pc = s.pc := rfl
@[simp] theorem flags_i (s : State) (x : FlagEffect) : (s.flags x).i = s.i := rfl
@[simp] theorem flags_r (s : State) (x : FlagEffect) : (s.flags x).r = s.r := rfl
@[simp] theorem flags_iff1 (s : State) (x : FlagEffect) : (s.flags x).iff1 = s.iff1 := rfl
@[simp] theorem flags_iff2 (s : State) (x : FlagEffect) : (s.flags x).iff2 = s.iff2 := rfl
@[simp] theorem flags_im (s : State) (x : FlagEffect) : (s.flags x).im = s.im := rfl
@[simp] theorem flags_run (s : State) (x : FlagEffect) : (s.flags x).run = s.run := rfl
@[simp] theorem flags_eiShadow (s : State) (x : FlagEffect) : (s.flags x).eiShadow = s.eiShadow := rfl
@[simp] theorem flags_nmiPending (s : State) (x : FlagEffect) : (s.flags x).nmiPending = s.nmiPending := rfl
@[simp] theorem flags_mem (s : State) (x : FlagEffect) : (s.flags x).mem = s.mem := rfl
@[simp] theorem flags_inputs (s : State) (x : FlagEffect) : (s.flags x).inputs = s.inputs := rfl
@[simp] theorem flags_outcome (s : State) (x : FlagEffect) : (s.flags x).outcome = s.outcome := rfl

/-! ### begin -/

@[simp] theorem begin_a (s : State) (x : Instr) : (s.begin x).a = s.a := rfl
@[simp] theorem begin_f (s : State) (x : Instr) : (s.begin x).f = s.f := rfl
@[simp] theorem begin_b (s : State) (x : Instr) : (s.begin x).b = s.b := rfl
@[simp] theorem begin_c (s : State) (x : Instr) : (s.begin x).c = s.c := rfl
@[simp] theorem begin_d (s : State) (x : Instr) : (s.begin x).d = s.d := rfl
@[simp] theorem begin_e (s : State) (x : Instr) : (s.begin x).e = s.e := rfl
@[simp] theorem begin_h (s : State) (x : Instr) : (s.begin x).h = s.h := rfl
@[simp] theorem begin_l (s : State) (x : Instr) : (s.begin x).l = s.l := rfl
@[simp] theorem begin_a_shadow (s : State) (x : Instr) : (s.begin x).a' = s.a' := rfl
@[simp] theorem begin_f_shadow (s : State) (x : Instr) : (s.begin x).f' = s.f' := rfl
@[simp] theorem begin_b_shadow (s : State) (x : Instr) : (s.begin x).b' = s.b' := rfl
@[simp] theorem begin_c_shadow (s : State) (x : Instr) : (s.begin x).c' = s.c' := rfl
@[simp] theorem begin_d_shadow (s : State) (x : Instr) : (s.begin x).d' = s.d' := rfl
@[simp] theorem begin_e_shadow (s : State) (x : Instr) : (s.begin x).e' = s.e' := rfl
@[simp] theorem begin_h_shadow (s : State) (x : Instr) : (s.begin x).h' = s.h' := rfl
@[simp] theorem begin_l_shadow (s : State) (x : Instr) : (s.begin x).l' = s.l' := rfl
@[simp] theorem begin_ix (s : State) (x : Instr) : (s.begin x).ix = s.ix := rfl
@[simp] theorem begin_iy (s : State) (x : Instr) : (s.begin x).iy = s.iy := rfl
@[simp] theorem begin_sp (s : State) (x : Instr) : (s.begin x).sp = s.sp := rfl
@[simp] theorem begin_pc (s : State) (x : Instr) : (s.begin x).pc = s.pcPlus x.length := rfl
@[simp] theorem begin_i (s : State) (x : Instr) : (s.begin x).i = s.i := rfl
@[simp] theorem begin_r (s : State) (x : Instr) : (s.begin x).r = incR x.m1 s.r := rfl
@[simp] theorem begin_iff1 (s : State) (x : Instr) : (s.begin x).iff1 = s.iff1 := rfl
@[simp] theorem begin_iff2 (s : State) (x : Instr) : (s.begin x).iff2 = s.iff2 := rfl
@[simp] theorem begin_im (s : State) (x : Instr) : (s.begin x).im = s.im := rfl
@[simp] theorem begin_run (s : State) (x : Instr) : (s.begin x).run = s.run := rfl
@[simp] theorem begin_eiShadow (s : State) (x : Instr) : (s.begin x).eiShadow = s.eiShadow := rfl
@[simp] theorem begin_nmiPending (s : State) (x : Instr) : (s.begin x).nmiPending = s.nmiPending := rfl
@[simp] theorem begin_mem (s : State) (x : Instr) : (s.begin x).mem = s.mem := rfl
@[simp] theorem begin_inputs (s : State) (x : Instr) : (s.begin x).inputs = s.inputs := rfl
@[simp] theorem begin_outcome (s : State) (x : Instr) : (s.begin x).outcome = s.outcome := rfl

/-! ### raise -/

@[simp] theorem raise_a (s : State) (x : Fault) : (s.raise x).a = s.a := rfl
@[simp] theorem raise_f (s : State) (x : Fault) : (s.raise x).f = s.f := rfl
@[simp] theorem raise_b (s : State) (x : Fault) : (s.raise x).b = s.b := rfl
@[simp] theorem raise_c (s : State) (x : Fault) : (s.raise x).c = s.c := rfl
@[simp] theorem raise_d (s : State) (x : Fault) : (s.raise x).d = s.d := rfl
@[simp] theorem raise_e (s : State) (x : Fault) : (s.raise x).e = s.e := rfl
@[simp] theorem raise_h (s : State) (x : Fault) : (s.raise x).h = s.h := rfl
@[simp] theorem raise_l (s : State) (x : Fault) : (s.raise x).l = s.l := rfl
@[simp] theorem raise_a_shadow (s : State) (x : Fault) : (s.raise x).a' = s.a' := rfl
@[simp] theorem raise_f_shadow (s : State) (x : Fault) : (s.raise x).f' = s.f' := rfl
@[simp] theorem raise_b_shadow (s : State) (x : Fault) : (s.raise x).b' = s.b' := rfl
@[simp] theorem raise_c_shadow (s : State) (x : Fault) : (s.raise x).c' = s.c' := rfl
@[simp] theorem raise_d_shadow (s : State) (x : Fault) : (s.raise x).d' = s.d' := rfl
@[simp] theorem raise_e_shadow (s : State) (x : Fault) : (s.raise x).e' = s.e' := rfl
@[simp] theorem raise_h_shadow (s : State) (x : Fault) : (s.raise x).h' = s.h' := rfl
@[simp] theorem raise_l_shadow (s : State) (x : Fault) : (s.raise x).l' = s.l' := rfl
@[simp] theorem raise_ix (s : State) (x : Fault) : (s.raise x).ix = s.ix := rfl
@[simp] theorem raise_iy (s : State) (x : Fault) : (s.raise x).iy = s.iy := rfl
@[simp] theorem raise_sp (s : State) (x : Fault) : (s.raise x).sp = s.sp := rfl
@[simp] theorem raise_pc (s : State) (x : Fault) : (s.raise x).pc = s.pc := rfl
@[simp] theorem raise_i (s : State) (x : Fault) : (s.raise x).i = s.i := rfl
@[simp] theorem raise_r (s : State) (x : Fault) : (s.raise x).r = s.r := rfl
@[simp] theorem raise_iff1 (s : State) (x : Fault) : (s.raise x).iff1 = s.iff1 := rfl
@[simp] theorem raise_iff2 (s : State) (x : Fault) : (s.raise x).iff2 = s.iff2 := rfl
@[simp] theorem raise_im (s : State) (x : Fault) : (s.raise x).im = s.im := rfl
@[simp] theorem raise_run (s : State) (x : Fault) : (s.raise x).run = .faulted x := rfl
@[simp] theorem raise_eiShadow (s : State) (x : Fault) : (s.raise x).eiShadow = s.eiShadow := rfl
@[simp] theorem raise_nmiPending (s : State) (x : Fault) : (s.raise x).nmiPending = s.nmiPending := rfl
@[simp] theorem raise_mem (s : State) (x : Fault) : (s.raise x).mem = s.mem := rfl
@[simp] theorem raise_inputs (s : State) (x : Fault) : (s.raise x).inputs = s.inputs := rfl
@[simp] theorem raise_outcome (s : State) (x : Fault) : (s.raise x).outcome = s.outcome := rfl

/-! ### advanceInputs -/

@[simp] theorem advanceInputs_a (s : State) : (s.advanceInputs).a = s.a := rfl
@[simp] theorem advanceInputs_f (s : State) : (s.advanceInputs).f = s.f := rfl
@[simp] theorem advanceInputs_b (s : State) : (s.advanceInputs).b = s.b := rfl
@[simp] theorem advanceInputs_c (s : State) : (s.advanceInputs).c = s.c := rfl
@[simp] theorem advanceInputs_d (s : State) : (s.advanceInputs).d = s.d := rfl
@[simp] theorem advanceInputs_e (s : State) : (s.advanceInputs).e = s.e := rfl
@[simp] theorem advanceInputs_h (s : State) : (s.advanceInputs).h = s.h := rfl
@[simp] theorem advanceInputs_l (s : State) : (s.advanceInputs).l = s.l := rfl
@[simp] theorem advanceInputs_a_shadow (s : State) : (s.advanceInputs).a' = s.a' := rfl
@[simp] theorem advanceInputs_f_shadow (s : State) : (s.advanceInputs).f' = s.f' := rfl
@[simp] theorem advanceInputs_b_shadow (s : State) : (s.advanceInputs).b' = s.b' := rfl
@[simp] theorem advanceInputs_c_shadow (s : State) : (s.advanceInputs).c' = s.c' := rfl
@[simp] theorem advanceInputs_d_shadow (s : State) : (s.advanceInputs).d' = s.d' := rfl
@[simp] theorem advanceInputs_e_shadow (s : State) : (s.advanceInputs).e' = s.e' := rfl
@[simp] theorem advanceInputs_h_shadow (s : State) : (s.advanceInputs).h' = s.h' := rfl
@[simp] theorem advanceInputs_l_shadow (s : State) : (s.advanceInputs).l' = s.l' := rfl
@[simp] theorem advanceInputs_ix (s : State) : (s.advanceInputs).ix = s.ix := rfl
@[simp] theorem advanceInputs_iy (s : State) : (s.advanceInputs).iy = s.iy := rfl
@[simp] theorem advanceInputs_sp (s : State) : (s.advanceInputs).sp = s.sp := rfl
@[simp] theorem advanceInputs_pc (s : State) : (s.advanceInputs).pc = s.pc := rfl
@[simp] theorem advanceInputs_i (s : State) : (s.advanceInputs).i = s.i := rfl
@[simp] theorem advanceInputs_r (s : State) : (s.advanceInputs).r = s.r := rfl
@[simp] theorem advanceInputs_iff1 (s : State) : (s.advanceInputs).iff1 = s.iff1 := rfl
@[simp] theorem advanceInputs_iff2 (s : State) : (s.advanceInputs).iff2 = s.iff2 := rfl
@[simp] theorem advanceInputs_im (s : State) : (s.advanceInputs).im = s.im := rfl
@[simp] theorem advanceInputs_run (s : State) : (s.advanceInputs).run = s.run := rfl
@[simp] theorem advanceInputs_eiShadow (s : State) : (s.advanceInputs).eiShadow = s.eiShadow := rfl
@[simp] theorem advanceInputs_nmiPending (s : State) : (s.advanceInputs).nmiPending = s.nmiPending := rfl
@[simp] theorem advanceInputs_mem (s : State) : (s.advanceInputs).mem = s.mem := rfl
@[simp] theorem advanceInputs_inputs (s : State) : (s.advanceInputs).inputs = s.inputs.tail := rfl
@[simp] theorem advanceInputs_outcome (s : State) : (s.advanceInputs).outcome = s.outcome := rfl

/-! ### idleStep -/

@[simp] theorem idleStep_a (s : State) : (s.idleStep).a = s.a := rfl
@[simp] theorem idleStep_f (s : State) : (s.idleStep).f = s.f := rfl
@[simp] theorem idleStep_b (s : State) : (s.idleStep).b = s.b := rfl
@[simp] theorem idleStep_c (s : State) : (s.idleStep).c = s.c := rfl
@[simp] theorem idleStep_d (s : State) : (s.idleStep).d = s.d := rfl
@[simp] theorem idleStep_e (s : State) : (s.idleStep).e = s.e := rfl
@[simp] theorem idleStep_h (s : State) : (s.idleStep).h = s.h := rfl
@[simp] theorem idleStep_l (s : State) : (s.idleStep).l = s.l := rfl
@[simp] theorem idleStep_a_shadow (s : State) : (s.idleStep).a' = s.a' := rfl
@[simp] theorem idleStep_f_shadow (s : State) : (s.idleStep).f' = s.f' := rfl
@[simp] theorem idleStep_b_shadow (s : State) : (s.idleStep).b' = s.b' := rfl
@[simp] theorem idleStep_c_shadow (s : State) : (s.idleStep).c' = s.c' := rfl
@[simp] theorem idleStep_d_shadow (s : State) : (s.idleStep).d' = s.d' := rfl
@[simp] theorem idleStep_e_shadow (s : State) : (s.idleStep).e' = s.e' := rfl
@[simp] theorem idleStep_h_shadow (s : State) : (s.idleStep).h' = s.h' := rfl
@[simp] theorem idleStep_l_shadow (s : State) : (s.idleStep).l' = s.l' := rfl
@[simp] theorem idleStep_ix (s : State) : (s.idleStep).ix = s.ix := rfl
@[simp] theorem idleStep_iy (s : State) : (s.idleStep).iy = s.iy := rfl
@[simp] theorem idleStep_sp (s : State) : (s.idleStep).sp = s.sp := rfl
@[simp] theorem idleStep_pc (s : State) : (s.idleStep).pc = s.pc := rfl
@[simp] theorem idleStep_i (s : State) : (s.idleStep).i = s.i := rfl
@[simp] theorem idleStep_r (s : State) : (s.idleStep).r = incR 1 s.r := rfl
@[simp] theorem idleStep_iff1 (s : State) : (s.idleStep).iff1 = s.iff1 := rfl
@[simp] theorem idleStep_iff2 (s : State) : (s.idleStep).iff2 = s.iff2 := rfl
@[simp] theorem idleStep_im (s : State) : (s.idleStep).im = s.im := rfl
@[simp] theorem idleStep_run (s : State) : (s.idleStep).run = s.run := rfl
@[simp] theorem idleStep_eiShadow (s : State) : (s.idleStep).eiShadow = s.eiShadow := rfl
@[simp] theorem idleStep_nmiPending (s : State) : (s.idleStep).nmiPending = s.nmiPending := rfl
@[simp] theorem idleStep_mem (s : State) : (s.idleStep).mem = s.mem := rfl
@[simp] theorem idleStep_inputs (s : State) : (s.idleStep).inputs = s.inputs := rfl
@[simp] theorem idleStep_outcome (s : State) : (s.idleStep).outcome = s.outcome := rfl

/-! ### latchNmi -/

@[simp] theorem latchNmi_a (s : State) (x : Inputs) : (s.latchNmi x).a = s.a := rfl
@[simp] theorem latchNmi_f (s : State) (x : Inputs) : (s.latchNmi x).f = s.f := rfl
@[simp] theorem latchNmi_b (s : State) (x : Inputs) : (s.latchNmi x).b = s.b := rfl
@[simp] theorem latchNmi_c (s : State) (x : Inputs) : (s.latchNmi x).c = s.c := rfl
@[simp] theorem latchNmi_d (s : State) (x : Inputs) : (s.latchNmi x).d = s.d := rfl
@[simp] theorem latchNmi_e (s : State) (x : Inputs) : (s.latchNmi x).e = s.e := rfl
@[simp] theorem latchNmi_h (s : State) (x : Inputs) : (s.latchNmi x).h = s.h := rfl
@[simp] theorem latchNmi_l (s : State) (x : Inputs) : (s.latchNmi x).l = s.l := rfl
@[simp] theorem latchNmi_a_shadow (s : State) (x : Inputs) : (s.latchNmi x).a' = s.a' := rfl
@[simp] theorem latchNmi_f_shadow (s : State) (x : Inputs) : (s.latchNmi x).f' = s.f' := rfl
@[simp] theorem latchNmi_b_shadow (s : State) (x : Inputs) : (s.latchNmi x).b' = s.b' := rfl
@[simp] theorem latchNmi_c_shadow (s : State) (x : Inputs) : (s.latchNmi x).c' = s.c' := rfl
@[simp] theorem latchNmi_d_shadow (s : State) (x : Inputs) : (s.latchNmi x).d' = s.d' := rfl
@[simp] theorem latchNmi_e_shadow (s : State) (x : Inputs) : (s.latchNmi x).e' = s.e' := rfl
@[simp] theorem latchNmi_h_shadow (s : State) (x : Inputs) : (s.latchNmi x).h' = s.h' := rfl
@[simp] theorem latchNmi_l_shadow (s : State) (x : Inputs) : (s.latchNmi x).l' = s.l' := rfl
@[simp] theorem latchNmi_ix (s : State) (x : Inputs) : (s.latchNmi x).ix = s.ix := rfl
@[simp] theorem latchNmi_iy (s : State) (x : Inputs) : (s.latchNmi x).iy = s.iy := rfl
@[simp] theorem latchNmi_sp (s : State) (x : Inputs) : (s.latchNmi x).sp = s.sp := rfl
@[simp] theorem latchNmi_pc (s : State) (x : Inputs) : (s.latchNmi x).pc = s.pc := rfl
@[simp] theorem latchNmi_i (s : State) (x : Inputs) : (s.latchNmi x).i = s.i := rfl
@[simp] theorem latchNmi_r (s : State) (x : Inputs) : (s.latchNmi x).r = s.r := rfl
@[simp] theorem latchNmi_iff1 (s : State) (x : Inputs) : (s.latchNmi x).iff1 = s.iff1 := rfl
@[simp] theorem latchNmi_iff2 (s : State) (x : Inputs) : (s.latchNmi x).iff2 = s.iff2 := rfl
@[simp] theorem latchNmi_im (s : State) (x : Inputs) : (s.latchNmi x).im = s.im := rfl
@[simp] theorem latchNmi_run (s : State) (x : Inputs) : (s.latchNmi x).run = s.run := rfl
@[simp] theorem latchNmi_eiShadow (s : State) (x : Inputs) : (s.latchNmi x).eiShadow = s.eiShadow := rfl
@[simp] theorem latchNmi_nmiPending (s : State) (x : Inputs) : (s.latchNmi x).nmiPending = (s.nmiPending || x.nmiEdge) := rfl
@[simp] theorem latchNmi_mem (s : State) (x : Inputs) : (s.latchNmi x).mem = s.mem := rfl
@[simp] theorem latchNmi_inputs (s : State) (x : Inputs) : (s.latchNmi x).inputs = s.inputs := rfl
@[simp] theorem latchNmi_outcome (s : State) (x : Inputs) : (s.latchNmi x).outcome = s.outcome := rfl

/-! ### readyToRun -/

@[simp] theorem readyToRun_a (s : State) : (s.readyToRun).a = s.a := rfl
@[simp] theorem readyToRun_f (s : State) : (s.readyToRun).f = s.f := rfl
@[simp] theorem readyToRun_b (s : State) : (s.readyToRun).b = s.b := rfl
@[simp] theorem readyToRun_c (s : State) : (s.readyToRun).c = s.c := rfl
@[simp] theorem readyToRun_d (s : State) : (s.readyToRun).d = s.d := rfl
@[simp] theorem readyToRun_e (s : State) : (s.readyToRun).e = s.e := rfl
@[simp] theorem readyToRun_h (s : State) : (s.readyToRun).h = s.h := rfl
@[simp] theorem readyToRun_l (s : State) : (s.readyToRun).l = s.l := rfl
@[simp] theorem readyToRun_a_shadow (s : State) : (s.readyToRun).a' = s.a' := rfl
@[simp] theorem readyToRun_f_shadow (s : State) : (s.readyToRun).f' = s.f' := rfl
@[simp] theorem readyToRun_b_shadow (s : State) : (s.readyToRun).b' = s.b' := rfl
@[simp] theorem readyToRun_c_shadow (s : State) : (s.readyToRun).c' = s.c' := rfl
@[simp] theorem readyToRun_d_shadow (s : State) : (s.readyToRun).d' = s.d' := rfl
@[simp] theorem readyToRun_e_shadow (s : State) : (s.readyToRun).e' = s.e' := rfl
@[simp] theorem readyToRun_h_shadow (s : State) : (s.readyToRun).h' = s.h' := rfl
@[simp] theorem readyToRun_l_shadow (s : State) : (s.readyToRun).l' = s.l' := rfl
@[simp] theorem readyToRun_ix (s : State) : (s.readyToRun).ix = s.ix := rfl
@[simp] theorem readyToRun_iy (s : State) : (s.readyToRun).iy = s.iy := rfl
@[simp] theorem readyToRun_sp (s : State) : (s.readyToRun).sp = s.sp := rfl
@[simp] theorem readyToRun_pc (s : State) : (s.readyToRun).pc = s.pc := rfl
@[simp] theorem readyToRun_i (s : State) : (s.readyToRun).i = s.i := rfl
@[simp] theorem readyToRun_r (s : State) : (s.readyToRun).r = s.r := rfl
@[simp] theorem readyToRun_iff1 (s : State) : (s.readyToRun).iff1 = s.iff1 := rfl
@[simp] theorem readyToRun_iff2 (s : State) : (s.readyToRun).iff2 = s.iff2 := rfl
@[simp] theorem readyToRun_im (s : State) : (s.readyToRun).im = s.im := rfl
@[simp] theorem readyToRun_run (s : State) : (s.readyToRun).run = .running := rfl
@[simp] theorem readyToRun_eiShadow (s : State) : (s.readyToRun).eiShadow = s.eiShadow := rfl
@[simp] theorem readyToRun_nmiPending (s : State) : (s.readyToRun).nmiPending = false := rfl
@[simp] theorem readyToRun_mem (s : State) : (s.readyToRun).mem = s.mem := rfl
@[simp] theorem readyToRun_inputs (s : State) : (s.readyToRun).inputs = [] := rfl
@[simp] theorem readyToRun_outcome (s : State) : (s.readyToRun).outcome = s.outcome := rfl

/-! ### applyReset -/

@[simp] theorem applyReset_a (s : State) : (s.applyReset).a = s.a := rfl
@[simp] theorem applyReset_f (s : State) : (s.applyReset).f = s.f := rfl
@[simp] theorem applyReset_b (s : State) : (s.applyReset).b = s.b := rfl
@[simp] theorem applyReset_c (s : State) : (s.applyReset).c = s.c := rfl
@[simp] theorem applyReset_d (s : State) : (s.applyReset).d = s.d := rfl
@[simp] theorem applyReset_e (s : State) : (s.applyReset).e = s.e := rfl
@[simp] theorem applyReset_h (s : State) : (s.applyReset).h = s.h := rfl
@[simp] theorem applyReset_l (s : State) : (s.applyReset).l = s.l := rfl
@[simp] theorem applyReset_a_shadow (s : State) : (s.applyReset).a' = s.a' := rfl
@[simp] theorem applyReset_f_shadow (s : State) : (s.applyReset).f' = s.f' := rfl
@[simp] theorem applyReset_b_shadow (s : State) : (s.applyReset).b' = s.b' := rfl
@[simp] theorem applyReset_c_shadow (s : State) : (s.applyReset).c' = s.c' := rfl
@[simp] theorem applyReset_d_shadow (s : State) : (s.applyReset).d' = s.d' := rfl
@[simp] theorem applyReset_e_shadow (s : State) : (s.applyReset).e' = s.e' := rfl
@[simp] theorem applyReset_h_shadow (s : State) : (s.applyReset).h' = s.h' := rfl
@[simp] theorem applyReset_l_shadow (s : State) : (s.applyReset).l' = s.l' := rfl
@[simp] theorem applyReset_ix (s : State) : (s.applyReset).ix = s.ix := rfl
@[simp] theorem applyReset_iy (s : State) : (s.applyReset).iy = s.iy := rfl
@[simp] theorem applyReset_sp (s : State) : (s.applyReset).sp = s.sp := rfl
@[simp] theorem applyReset_pc (s : State) : (s.applyReset).pc = Config.resetVector := rfl
@[simp] theorem applyReset_i (s : State) : (s.applyReset).i = 0 := rfl
@[simp] theorem applyReset_r (s : State) : (s.applyReset).r = 0 := rfl
@[simp] theorem applyReset_iff1 (s : State) : (s.applyReset).iff1 = false := rfl
@[simp] theorem applyReset_iff2 (s : State) : (s.applyReset).iff2 = false := rfl
@[simp] theorem applyReset_im (s : State) : (s.applyReset).im = .im0 := rfl
@[simp] theorem applyReset_run (s : State) : (s.applyReset).run = .running := rfl
@[simp] theorem applyReset_eiShadow (s : State) : (s.applyReset).eiShadow = false := rfl
@[simp] theorem applyReset_nmiPending (s : State) : (s.applyReset).nmiPending = false := rfl
@[simp] theorem applyReset_mem (s : State) : (s.applyReset).mem = s.mem := rfl
@[simp] theorem applyReset_inputs (s : State) : (s.applyReset).inputs = s.inputs := rfl
@[simp] theorem applyReset_outcome (s : State) : (s.applyReset).outcome = s.outcome := rfl

/-! ### repeatIf and report -/

@[simp] theorem repeatIf_a (s : State) (again : Bool) (p : Word) : (s.repeatIf again p).a = s.a := by unfold repeatIf; split <;> rfl
@[simp] theorem repeatIf_f (s : State) (again : Bool) (p : Word) : (s.repeatIf again p).f = s.f := by unfold repeatIf; split <;> rfl
@[simp] theorem repeatIf_b (s : State) (again : Bool) (p : Word) : (s.repeatIf again p).b = s.b := by unfold repeatIf; split <;> rfl
@[simp] theorem repeatIf_c (s : State) (again : Bool) (p : Word) : (s.repeatIf again p).c = s.c := by unfold repeatIf; split <;> rfl
@[simp] theorem repeatIf_d (s : State) (again : Bool) (p : Word) : (s.repeatIf again p).d = s.d := by unfold repeatIf; split <;> rfl
@[simp] theorem repeatIf_e (s : State) (again : Bool) (p : Word) : (s.repeatIf again p).e = s.e := by unfold repeatIf; split <;> rfl
@[simp] theorem repeatIf_h (s : State) (again : Bool) (p : Word) : (s.repeatIf again p).h = s.h := by unfold repeatIf; split <;> rfl
@[simp] theorem repeatIf_l (s : State) (again : Bool) (p : Word) : (s.repeatIf again p).l = s.l := by unfold repeatIf; split <;> rfl
@[simp] theorem repeatIf_a_shadow (s : State) (again : Bool) (p : Word) : (s.repeatIf again p).a' = s.a' := by unfold repeatIf; split <;> rfl
@[simp] theorem repeatIf_f_shadow (s : State) (again : Bool) (p : Word) : (s.repeatIf again p).f' = s.f' := by unfold repeatIf; split <;> rfl
@[simp] theorem repeatIf_b_shadow (s : State) (again : Bool) (p : Word) : (s.repeatIf again p).b' = s.b' := by unfold repeatIf; split <;> rfl
@[simp] theorem repeatIf_c_shadow (s : State) (again : Bool) (p : Word) : (s.repeatIf again p).c' = s.c' := by unfold repeatIf; split <;> rfl
@[simp] theorem repeatIf_d_shadow (s : State) (again : Bool) (p : Word) : (s.repeatIf again p).d' = s.d' := by unfold repeatIf; split <;> rfl
@[simp] theorem repeatIf_e_shadow (s : State) (again : Bool) (p : Word) : (s.repeatIf again p).e' = s.e' := by unfold repeatIf; split <;> rfl
@[simp] theorem repeatIf_h_shadow (s : State) (again : Bool) (p : Word) : (s.repeatIf again p).h' = s.h' := by unfold repeatIf; split <;> rfl
@[simp] theorem repeatIf_l_shadow (s : State) (again : Bool) (p : Word) : (s.repeatIf again p).l' = s.l' := by unfold repeatIf; split <;> rfl
@[simp] theorem repeatIf_ix (s : State) (again : Bool) (p : Word) : (s.repeatIf again p).ix = s.ix := by unfold repeatIf; split <;> rfl
@[simp] theorem repeatIf_iy (s : State) (again : Bool) (p : Word) : (s.repeatIf again p).iy = s.iy := by unfold repeatIf; split <;> rfl
@[simp] theorem repeatIf_sp (s : State) (again : Bool) (p : Word) : (s.repeatIf again p).sp = s.sp := by unfold repeatIf; split <;> rfl
@[simp] theorem repeatIf_pc (s : State) (again : Bool) (p : Word) : (s.repeatIf again p).pc = if again then p else s.pc := by unfold repeatIf; split <;> rfl
@[simp] theorem repeatIf_i (s : State) (again : Bool) (p : Word) : (s.repeatIf again p).i = s.i := by unfold repeatIf; split <;> rfl
@[simp] theorem repeatIf_r (s : State) (again : Bool) (p : Word) : (s.repeatIf again p).r = s.r := by unfold repeatIf; split <;> rfl
@[simp] theorem repeatIf_iff1 (s : State) (again : Bool) (p : Word) : (s.repeatIf again p).iff1 = s.iff1 := by unfold repeatIf; split <;> rfl
@[simp] theorem repeatIf_iff2 (s : State) (again : Bool) (p : Word) : (s.repeatIf again p).iff2 = s.iff2 := by unfold repeatIf; split <;> rfl
@[simp] theorem repeatIf_im (s : State) (again : Bool) (p : Word) : (s.repeatIf again p).im = s.im := by unfold repeatIf; split <;> rfl
@[simp] theorem repeatIf_run (s : State) (again : Bool) (p : Word) : (s.repeatIf again p).run = s.run := by unfold repeatIf; split <;> rfl
@[simp] theorem repeatIf_eiShadow (s : State) (again : Bool) (p : Word) : (s.repeatIf again p).eiShadow = s.eiShadow := by unfold repeatIf; split <;> rfl
@[simp] theorem repeatIf_nmiPending (s : State) (again : Bool) (p : Word) : (s.repeatIf again p).nmiPending = s.nmiPending := by unfold repeatIf; split <;> rfl
@[simp] theorem repeatIf_mem (s : State) (again : Bool) (p : Word) : (s.repeatIf again p).mem = s.mem := by unfold repeatIf; split <;> rfl
@[simp] theorem repeatIf_inputs (s : State) (again : Bool) (p : Word) : (s.repeatIf again p).inputs = s.inputs := by unfold repeatIf; split <;> rfl
@[simp] theorem repeatIf_outcome (s : State) (again : Bool) (p : Word) : (s.repeatIf again p).outcome = s.outcome := by unfold repeatIf; split <;> rfl
@[simp] theorem report_a (s : State) (o : StepOutcome) : (s.report o).a = s.a := rfl
@[simp] theorem report_f (s : State) (o : StepOutcome) : (s.report o).f = s.f := rfl
@[simp] theorem report_b (s : State) (o : StepOutcome) : (s.report o).b = s.b := rfl
@[simp] theorem report_c (s : State) (o : StepOutcome) : (s.report o).c = s.c := rfl
@[simp] theorem report_d (s : State) (o : StepOutcome) : (s.report o).d = s.d := rfl
@[simp] theorem report_e (s : State) (o : StepOutcome) : (s.report o).e = s.e := rfl
@[simp] theorem report_h (s : State) (o : StepOutcome) : (s.report o).h = s.h := rfl
@[simp] theorem report_l (s : State) (o : StepOutcome) : (s.report o).l = s.l := rfl
@[simp] theorem report_a_shadow (s : State) (o : StepOutcome) : (s.report o).a' = s.a' := rfl
@[simp] theorem report_f_shadow (s : State) (o : StepOutcome) : (s.report o).f' = s.f' := rfl
@[simp] theorem report_b_shadow (s : State) (o : StepOutcome) : (s.report o).b' = s.b' := rfl
@[simp] theorem report_c_shadow (s : State) (o : StepOutcome) : (s.report o).c' = s.c' := rfl
@[simp] theorem report_d_shadow (s : State) (o : StepOutcome) : (s.report o).d' = s.d' := rfl
@[simp] theorem report_e_shadow (s : State) (o : StepOutcome) : (s.report o).e' = s.e' := rfl
@[simp] theorem report_h_shadow (s : State) (o : StepOutcome) : (s.report o).h' = s.h' := rfl
@[simp] theorem report_l_shadow (s : State) (o : StepOutcome) : (s.report o).l' = s.l' := rfl
@[simp] theorem report_ix (s : State) (o : StepOutcome) : (s.report o).ix = s.ix := rfl
@[simp] theorem report_iy (s : State) (o : StepOutcome) : (s.report o).iy = s.iy := rfl
@[simp] theorem report_sp (s : State) (o : StepOutcome) : (s.report o).sp = s.sp := rfl
@[simp] theorem report_pc (s : State) (o : StepOutcome) : (s.report o).pc = s.pc := rfl
@[simp] theorem report_i (s : State) (o : StepOutcome) : (s.report o).i = s.i := rfl
@[simp] theorem report_r (s : State) (o : StepOutcome) : (s.report o).r = s.r := rfl
@[simp] theorem report_iff1 (s : State) (o : StepOutcome) : (s.report o).iff1 = s.iff1 := rfl
@[simp] theorem report_iff2 (s : State) (o : StepOutcome) : (s.report o).iff2 = s.iff2 := rfl
@[simp] theorem report_im (s : State) (o : StepOutcome) : (s.report o).im = s.im := rfl
@[simp] theorem report_run (s : State) (o : StepOutcome) : (s.report o).run = s.run := rfl
@[simp] theorem report_eiShadow (s : State) (o : StepOutcome) : (s.report o).eiShadow = s.eiShadow := rfl
@[simp] theorem report_nmiPending (s : State) (o : StepOutcome) : (s.report o).nmiPending = s.nmiPending := rfl
@[simp] theorem report_mem (s : State) (o : StepOutcome) : (s.report o).mem = s.mem := rfl
@[simp] theorem report_inputs (s : State) (o : StepOutcome) : (s.report o).inputs = s.inputs := rfl

/-! ### setShadow8 -/

@[simp] theorem setShadow8_a (s : State) (r : Reg8) (v : Byte) : (s.setShadow8 r v).a = s.a := by cases r <;> rfl
@[simp] theorem setShadow8_f (s : State) (r : Reg8) (v : Byte) : (s.setShadow8 r v).f = s.f := by cases r <;> rfl
@[simp] theorem setShadow8_b (s : State) (r : Reg8) (v : Byte) : (s.setShadow8 r v).b = s.b := by cases r <;> rfl
@[simp] theorem setShadow8_c (s : State) (r : Reg8) (v : Byte) : (s.setShadow8 r v).c = s.c := by cases r <;> rfl
@[simp] theorem setShadow8_d (s : State) (r : Reg8) (v : Byte) : (s.setShadow8 r v).d = s.d := by cases r <;> rfl
@[simp] theorem setShadow8_e (s : State) (r : Reg8) (v : Byte) : (s.setShadow8 r v).e = s.e := by cases r <;> rfl
@[simp] theorem setShadow8_h (s : State) (r : Reg8) (v : Byte) : (s.setShadow8 r v).h = s.h := by cases r <;> rfl
@[simp] theorem setShadow8_l (s : State) (r : Reg8) (v : Byte) : (s.setShadow8 r v).l = s.l := by cases r <;> rfl
@[simp] theorem setShadow8_a_shadow (s : State) (r : Reg8) (v : Byte) : (s.setShadow8 r v).a' = if r = .a then v else s.a' := by cases r <;> rfl
@[simp] theorem setShadow8_f_shadow (s : State) (r : Reg8) (v : Byte) : (s.setShadow8 r v).f' = s.f' := by cases r <;> rfl
@[simp] theorem setShadow8_b_shadow (s : State) (r : Reg8) (v : Byte) : (s.setShadow8 r v).b' = if r = .b then v else s.b' := by cases r <;> rfl
@[simp] theorem setShadow8_c_shadow (s : State) (r : Reg8) (v : Byte) : (s.setShadow8 r v).c' = if r = .c then v else s.c' := by cases r <;> rfl
@[simp] theorem setShadow8_d_shadow (s : State) (r : Reg8) (v : Byte) : (s.setShadow8 r v).d' = if r = .d then v else s.d' := by cases r <;> rfl
@[simp] theorem setShadow8_e_shadow (s : State) (r : Reg8) (v : Byte) : (s.setShadow8 r v).e' = if r = .e then v else s.e' := by cases r <;> rfl
@[simp] theorem setShadow8_h_shadow (s : State) (r : Reg8) (v : Byte) : (s.setShadow8 r v).h' = if r = .h then v else s.h' := by cases r <;> rfl
@[simp] theorem setShadow8_l_shadow (s : State) (r : Reg8) (v : Byte) : (s.setShadow8 r v).l' = if r = .l then v else s.l' := by cases r <;> rfl
@[simp] theorem setShadow8_ix (s : State) (r : Reg8) (v : Byte) : (s.setShadow8 r v).ix = s.ix := by cases r <;> rfl
@[simp] theorem setShadow8_iy (s : State) (r : Reg8) (v : Byte) : (s.setShadow8 r v).iy = s.iy := by cases r <;> rfl
@[simp] theorem setShadow8_sp (s : State) (r : Reg8) (v : Byte) : (s.setShadow8 r v).sp = s.sp := by cases r <;> rfl
@[simp] theorem setShadow8_pc (s : State) (r : Reg8) (v : Byte) : (s.setShadow8 r v).pc = s.pc := by cases r <;> rfl
@[simp] theorem setShadow8_i (s : State) (r : Reg8) (v : Byte) : (s.setShadow8 r v).i = s.i := by cases r <;> rfl
@[simp] theorem setShadow8_r (s : State) (r : Reg8) (v : Byte) : (s.setShadow8 r v).r = s.r := by cases r <;> rfl
@[simp] theorem setShadow8_iff1 (s : State) (r : Reg8) (v : Byte) : (s.setShadow8 r v).iff1 = s.iff1 := by cases r <;> rfl
@[simp] theorem setShadow8_iff2 (s : State) (r : Reg8) (v : Byte) : (s.setShadow8 r v).iff2 = s.iff2 := by cases r <;> rfl
@[simp] theorem setShadow8_im (s : State) (r : Reg8) (v : Byte) : (s.setShadow8 r v).im = s.im := by cases r <;> rfl
@[simp] theorem setShadow8_run (s : State) (r : Reg8) (v : Byte) : (s.setShadow8 r v).run = s.run := by cases r <;> rfl
@[simp] theorem setShadow8_eiShadow (s : State) (r : Reg8) (v : Byte) : (s.setShadow8 r v).eiShadow = s.eiShadow := by cases r <;> rfl
@[simp] theorem setShadow8_nmiPending (s : State) (r : Reg8) (v : Byte) : (s.setShadow8 r v).nmiPending = s.nmiPending := by cases r <;> rfl
@[simp] theorem setShadow8_mem (s : State) (r : Reg8) (v : Byte) : (s.setShadow8 r v).mem = s.mem := by cases r <;> rfl
@[simp] theorem setShadow8_inputs (s : State) (r : Reg8) (v : Byte) : (s.setShadow8 r v).inputs = s.inputs := by cases r <;> rfl
@[simp] theorem setShadow8_outcome (s : State) (r : Reg8) (v : Byte) : (s.setShadow8 r v).outcome = s.outcome := by cases r <;> rfl

end Sys2Proof.Machine.State
end

