-- ==== Sys2Proof/Laws/Ops.lean ====
section
/-! SUPPORT. One lemma for each shared operation that says everything it can do: where it succeeds and with what,
where it raises MemoryFault and of which address. -/

namespace Sys2Proof.Machine

/-! ### Computations that can raise MemoryFault -/

@[simp] theorem exec_ok_bind {α β : Type} (a : α) (k : α → Exec β) : (Except.ok a >>= k) = k a := rfl

@[simp] theorem exec_error_bind {α β : Type} (e : MemError) (k : α → Exec β) :
    (Except.error e >>= k) = .error e := rfl

@[simp] theorem exec_pure {α : Type} (a : α) : (pure a : Exec α) = .ok a := rfl

/-- A bind that succeeds: both parts succeeded. -/
theorem exec_bind_ok {α β : Type} {x : Exec α} {k : α → Exec β} {b : β} (h : (x >>= k) = .ok b) :
    ∃ a, x = .ok a ∧ k a = .ok b := by
  cases x with
  | ok a => exact ⟨a, rfl, h⟩
  | error e => cases h

/-! ### Bytes -/

theorem readByte_ok {s : State} {a : Word} (h : a.toNat < s.mem.size) :
    s.readByte a = .ok (s.mem.get a.toNat) := if_neg (Nat.not_le.mpr h)

theorem readByte_error {s : State} {a : Word} (h : s.mem.size ≤ a.toNat) :
    s.readByte a = .error { addr := a, kind := .read } := if_pos h

/-- What a byte read that succeeds read. -/
theorem readByte_inv {s : State} {a : Word} {v : Byte} (h : s.readByte a = .ok v) :
    a.toNat < s.mem.size ∧ v = s.mem.get a.toNat := by
  unfold State.readByte at h
  split at h
  · cases h
  · next hlt => exact ⟨Nat.not_le.mp hlt, (Except.ok.inj h).symm⟩

theorem writeByte_ok {s : State} {a : Word} (v : Byte) (h : a.toNat < s.mem.size) :
    s.writeByte a v = .ok { s with mem := s.mem.set a.toNat v } := if_neg (Nat.not_le.mpr h)

theorem writeByte_error {s : State} {a : Word} (v : Byte) (h : s.mem.size ≤ a.toNat) :
    s.writeByte a v = .error { addr := a, kind := .write } := if_pos h

/-- What a byte write that succeeds did. -/
theorem writeByte_inv {s t : State} {a : Word} {v : Byte} (h : s.writeByte a v = .ok t) :
    a.toNat < s.mem.size ∧ t = { s with mem := s.mem.set a.toNat v } := by
  unfold State.writeByte at h
  split at h
  · cases h
  · next hlt => exact ⟨Nat.not_le.mp hlt, (Except.ok.inj h).symm⟩

/-! ### Words -/

theorem readWord_ok {s : State} {a : Word} (h0 : a.toNat < s.mem.size) (h1 : (a + 1).toNat < s.mem.size) :
    s.readWord a = .ok (promote (s.mem.get (a + 1).toNat) (s.mem.get a.toNat)) := by
  rw [State.readWord, readByte_ok h0, exec_ok_bind, readByte_ok h1]
  rfl

theorem readWord_error_low {s : State} {a : Word} (h : s.mem.size ≤ a.toNat) :
    s.readWord a = .error { addr := a, kind := .read } := by
  rw [State.readWord, readByte_error h, exec_error_bind]

theorem readWord_error_high {s : State} {a : Word} (h0 : a.toNat < s.mem.size)
    (h1 : s.mem.size ≤ (a + 1).toNat) : s.readWord a = .error { addr := a + 1, kind := .read } := by
  rw [State.readWord, readByte_ok h0, exec_ok_bind, readByte_error h1, exec_error_bind]

theorem writeWord_ok {s : State} {a : Word} (v : Word) (h0 : a.toNat < s.mem.size)
    (h1 : (a + 1).toNat < s.mem.size) :
    s.writeWord a v = .ok { s with mem := (s.mem.set a.toNat (loByte v)).set (a + 1).toNat (hiByte v) } := by
  simp only [State.writeWord, State.writeByte, if_neg (Nat.not_le.mpr h0), exec_ok_bind, Memory.size_set]
  exact if_neg (Nat.not_le.mpr h1)

theorem writeWord_error_low {s : State} {a : Word} (v : Word) (h : s.mem.size ≤ a.toNat) :
    s.writeWord a v = .error { addr := a, kind := .write } := by
  rw [State.writeWord, writeByte_error _ h, exec_error_bind]

theorem writeWord_error_high {s : State} {a : Word} (v : Word) (h0 : a.toNat < s.mem.size)
    (h1 : s.mem.size ≤ (a + 1).toNat) : s.writeWord a v = .error { addr := a + 1, kind := .write } := by
  simp only [State.writeWord, State.writeByte, if_neg (Nat.not_le.mpr h0), exec_ok_bind, Memory.size_set]
  exact if_pos h1

/-! ### The stack -/

/-! ### Every memory operation keeps the canonical form -/

theorem writeByte_wf {s t : State} {a : Word} {v : Byte} (h : s.writeByte a v = .ok t) (hw : s.mem.wf = true) :
    t.mem.wf = true := by
  obtain ⟨ha, rfl⟩ := writeByte_inv h
  exact Memory.wf_set v ha hw

theorem writeWord_wf {s t : State} {a v : Word} (h : s.writeWord a v = .ok t) (hw : s.mem.wf = true) :
    t.mem.wf = true := by
  obtain ⟨u, hu, ht⟩ := exec_bind_ok h
  exact writeByte_wf ht (writeByte_wf hu hw)

theorem push16_wf {s t : State} {v : Word} (h : s.push16 v = .ok t) (hw : s.mem.wf = true) : t.mem.wf = true := by
  obtain ⟨u, hu, ht⟩ := exec_bind_ok h
  have hmem : u.mem.wf = true := writeByte_wf hu hw
  exact writeByte_wf (s := { u with sp := u.sp - 1 }) ht hmem

theorem sp_sub_two (v : Word) : v - 1 - 1 = v - 2 := by rw [BitVec.sub_sub]; rfl

theorem sp_add_two (v : Word) : v + 1 + 1 = v + 2 := by rw [BitVec.add_assoc]; rfl

theorem push16_ok {s : State} (v : Word) (h0 : (s.sp - 1).toNat < s.mem.size)
    (h1 : (s.sp - 2).toNat < s.mem.size) :
    s.push16 v = .ok { s with
      sp := s.sp - 2
      mem := (s.mem.set (s.sp - 1).toNat (hiByte v)).set (s.sp - 2).toNat (loByte v) } := by
  simp only [State.push16, State.writeByte, sp_sub_two, if_neg (Nat.not_le.mpr h0), exec_ok_bind,
    Memory.size_set, if_neg (Nat.not_le.mpr h1)]

theorem push16_error_high {s : State} (v : Word) (h : s.mem.size ≤ (s.sp - 1).toNat) :
    s.push16 v = .error { addr := s.sp - 1, kind := .write } := by
  simp only [State.push16, State.writeByte, if_pos h, exec_error_bind]

theorem push16_error_low {s : State} (v : Word) (h0 : (s.sp - 1).toNat < s.mem.size)
    (h1 : s.mem.size ≤ (s.sp - 2).toNat) : s.push16 v = .error { addr := s.sp - 2, kind := .write } := by
  simp only [State.push16, State.writeByte, sp_sub_two, if_neg (Nat.not_le.mpr h0), exec_ok_bind,
    Memory.size_set, if_pos h1]

theorem pop16_ok {s : State} (h0 : s.sp.toNat < s.mem.size) (h1 : (s.sp + 1).toNat < s.mem.size) :
    s.pop16 = .ok (promote (s.mem.get (s.sp + 1).toNat) (s.mem.get s.sp.toNat), { s with sp := s.sp + 2 }) := by
  simp only [State.pop16, State.readByte, sp_add_two, if_neg (Nat.not_le.mpr h0), exec_ok_bind,
    if_neg (Nat.not_le.mpr h1), exec_pure]

theorem pop16_error_low {s : State} (h : s.mem.size ≤ s.sp.toNat) :
    s.pop16 = .error { addr := s.sp, kind := .read } := by
  simp only [State.pop16, State.readByte, if_pos h, exec_error_bind]

theorem pop16_error_high {s : State} (h0 : s.sp.toNat < s.mem.size) (h1 : s.mem.size ≤ (s.sp + 1).toNat) :
    s.pop16 = .error { addr := s.sp + 1, kind := .read } := by
  simp only [State.pop16, State.readByte, if_neg (Nat.not_le.mpr h0), exec_ok_bind, if_pos h1,
    exec_error_bind]

/-! ### The step frame -/

/-- The last line of the step frame (30_encoding.md R113). -/
def State.endStep (u : State) (i : Instr) : State := { u with eiShadow := i.isEi }

@[simp] theorem State.endStep_a (s : State) (x : Instr) : (s.endStep x).a = s.a := rfl
@[simp] theorem State.endStep_f (s : State) (x : Instr) : (s.endStep x).f = s.f := rfl
@[simp] theorem State.endStep_b (s : State) (x : Instr) : (s.endStep x).b = s.b := rfl
@[simp] theorem State.endStep_c (s : State) (x : Instr) : (s.endStep x).c = s.c := rfl
@[simp] theorem State.endStep_d (s : State) (x : Instr) : (s.endStep x).d = s.d := rfl
@[simp] theorem State.endStep_e (s : State) (x : Instr) : (s.endStep x).e = s.e := rfl
@[simp] theorem State.endStep_h (s : State) (x : Instr) : (s.endStep x).h = s.h := rfl
@[simp] theorem State.endStep_l (s : State) (x : Instr) : (s.endStep x).l = s.l := rfl
@[simp] theorem State.endStep_a_shadow (s : State) (x : Instr) : (s.endStep x).a' = s.a' := rfl
@[simp] theorem State.endStep_f_shadow (s : State) (x : Instr) : (s.endStep x).f' = s.f' := rfl
@[simp] theorem State.endStep_b_shadow (s : State) (x : Instr) : (s.endStep x).b' = s.b' := rfl
@[simp] theorem State.endStep_c_shadow (s : State) (x : Instr) : (s.endStep x).c' = s.c' := rfl
@[simp] theorem State.endStep_d_shadow (s : State) (x : Instr) : (s.endStep x).d' = s.d' := rfl
@[simp] theorem State.endStep_e_shadow (s : State) (x : Instr) : (s.endStep x).e' = s.e' := rfl
@[simp] theorem State.endStep_h_shadow (s : State) (x : Instr) : (s.endStep x).h' = s.h' := rfl
@[simp] theorem State.endStep_l_shadow (s : State) (x : Instr) : (s.endStep x).l' = s.l' := rfl
@[simp] theorem State.endStep_ix (s : State) (x : Instr) : (s.endStep x).ix = s.ix := rfl
@[simp] theorem State.endStep_iy (s : State) (x : Instr) : (s.endStep x).iy = s.iy := rfl
@[simp] theorem State.endStep_sp (s : State) (x : Instr) : (s.endStep x).sp = s.sp := rfl
@[simp] theorem State.endStep_pc (s : State) (x : Instr) : (s.endStep x).pc = s.pc := rfl
@[simp] theorem State.endStep_i (s : State) (x : Instr) : (s.endStep x).i = s.i := rfl
@[simp] theorem State.endStep_r (s : State) (x : Instr) : (s.endStep x).r = s.r := rfl
@[simp] theorem State.endStep_iff1 (s : State) (x : Instr) : (s.endStep x).iff1 = s.iff1 := rfl
@[simp] theorem State.endStep_iff2 (s : State) (x : Instr) : (s.endStep x).iff2 = s.iff2 := rfl
@[simp] theorem State.endStep_im (s : State) (x : Instr) : (s.endStep x).im = s.im := rfl
@[simp] theorem State.endStep_run (s : State) (x : Instr) : (s.endStep x).run = s.run := rfl
@[simp] theorem State.endStep_eiShadow (s : State) (x : Instr) : (s.endStep x).eiShadow = x.isEi := rfl
@[simp] theorem State.endStep_nmiPending (s : State) (x : Instr) : (s.endStep x).nmiPending = s.nmiPending := rfl
@[simp] theorem State.endStep_mem (s : State) (x : Instr) : (s.endStep x).mem = s.mem := rfl
@[simp] theorem State.endStep_inputs (s : State) (x : Instr) : (s.endStep x).inputs = s.inputs := rfl
@[simp] theorem State.endStep_outcome (s : State) (x : Instr) : (s.endStep x).outcome = s.outcome := rfl

theorem frame_ok {i : Instr} {s t : State} {body : State → Exec State} (h : body (s.begin i) = .ok t) :
    frame i s body = .next (t.endStep i) := by
  simp [frame, h, State.endStep]

theorem frame_error {i : Instr} {s : State} {e : MemError} {body : State → Exec State}
    (h : body (s.begin i) = .error e) : frame i s body = .next (s.raise (e.fault s.pc)) := by
  simp [frame, h]

/-- Everything a frame can answer: the body's state with the EI shadow set, or the saved state Faulted. -/
theorem frame_cases {i : Instr} {s t : State} {body : State → Exec State} (h : frame i s body = .next t) :
    (∃ u, body (s.begin i) = .ok u ∧ t = u.endStep i) ∨
    (∃ e, body (s.begin i) = .error e ∧ t = s.raise (e.fault s.pc)) := by
  unfold frame at h
  split at h
  · next u hu => exact .inl ⟨u, hu, (Host.Outcome.next.inj h).symm⟩
  · next e he => exact .inr ⟨e, he, (Host.Outcome.next.inj h).symm⟩

/-- A frame always answers a next state. -/
theorem frame_next (i : Instr) (s : State) (body : State → Exec State) : ∃ t, frame i s body = .next t := by
  unfold frame
  split <;> exact ⟨_, rfl⟩

@[simp] theorem frameReg_eq (i : Instr) (s : State) (body : State → State) :
    frameReg i s body = .next ((body (s.begin i)).endStep i) := rfl

@[simp] theorem raiseIo_eq (i : Instr) (s : State) :
    raiseIo i s = .next (s.raise (.unimplemented .ioNotInCore s.pc (encode i))) := rfl

/-! ### Fault records -/

@[simp] theorem memError_fault (a : Word) (k : AccessKind) (pc0 : Word) :
    MemError.fault { addr := a, kind := k } pc0 = .memoryFault a k pc0 := rfl

/-! ### Wrapped addresses -/

/-- A wrapped integer as a number, in a buffer that the 16-bit addresses reach. -/
theorem wrap_toNat {s : State} (v : Int) (h0 : 0 < s.mem.size) (h1 : s.mem.size ≤ 65536) :
    ((s.wrap v).toNat : Int) = v % s.mem.size := by
  have hlo := Int.emod_nonneg v (show (s.mem.size : Int) ≠ 0 by omega)
  have hhi := Int.emod_lt_of_pos v (show (0 : Int) < s.mem.size by omega)
  simp only [State.wrap, BitVec.toNat_ofInt]
  rw [Int.toNat_of_nonneg (Int.emod_nonneg _ (by norm_num))]
  exact Int.emod_eq_of_lt hlo (by norm_num; omega)

/-- A wrapped address is inside the buffer. -/
theorem wrap_lt {s : State} (v : Int) (h0 : 0 < s.mem.size) (h1 : s.mem.size ≤ 65536) :
    (s.wrap v).toNat < s.mem.size := by
  have h := wrap_toNat v h0 h1
  have hhi := Int.emod_lt_of_pos v (show (0 : Int) < s.mem.size by omega)
  omega

/-- The bounds a canonical memory gives its capacity. -/
theorem Memory.size_of_wf {m : Memory} (h : m.wf = true) : 1 ≤ m.size ∧ m.size ≤ 65536 := by
  simp only [Memory.wf, Bool.and_eq_true, decide_eq_true_eq] at h
  exact h.1.1

/-! ### R -/

theorem incR_toNat (k : Nat) (r : Byte) :
    (incR k r).toNat = r.toNat / 128 * 128 + (r.toNat % 128 + k) % 128 := by
  have := r.isLt
  simp only [incR, BitVec.toNat_ofNat]
  exact Nat.mod_eq_of_lt (by omega)

/-! ### Views -/

@[simp] theorem setHL_hl (s : State) (v : Word) : (s.setHL v).hl = v := promote_hiByte_loByte v
@[simp] theorem setDE_de (s : State) (v : Word) : (s.setDE v).de = v := promote_hiByte_loByte v
@[simp] theorem setBC_bc (s : State) (v : Word) : (s.setBC v).bc = v := promote_hiByte_loByte v
@[simp] theorem setAF_af (s : State) (v : Word) : (s.setAF v).af = v := promote_hiByte_loByte v

@[simp] theorem setHL'_hl' (s : State) (v : Word) : (s.setHL' v).hl' = v := promote_hiByte_loByte v
@[simp] theorem setDE'_de' (s : State) (v : Word) : (s.setDE' v).de' = v := promote_hiByte_loByte v
@[simp] theorem setBC'_bc' (s : State) (v : Word) : (s.setBC' v).bc' = v := promote_hiByte_loByte v
@[simp] theorem setAF'_af' (s : State) (v : Word) : (s.setAF' v).af' = v := promote_hiByte_loByte v

/-- Writing back what a view reads changes nothing (10_state.md R32, R33). -/
@[simp] theorem setHL_self (s : State) : s.setHL s.hl = s := by simp [State.setHL, State.hl]
@[simp] theorem setDE_self (s : State) : s.setDE s.de = s := by simp [State.setDE, State.de]
@[simp] theorem setBC_self (s : State) : s.setBC s.bc = s := by simp [State.setBC, State.bc]
@[simp] theorem setAF_self (s : State) : s.setAF s.af = s := by simp [State.setAF, State.af]
@[simp] theorem setHL'_self (s : State) : s.setHL' s.hl' = s := by simp [State.setHL', State.hl']
@[simp] theorem setDE'_self (s : State) : s.setDE' s.de' = s := by simp [State.setDE', State.de']
@[simp] theorem setBC'_self (s : State) : s.setBC' s.bc' = s := by simp [State.setBC', State.bc']
@[simp] theorem setAF'_self (s : State) : s.setAF' s.af' = s := by simp [State.setAF', State.af']

/-- Every view is its two halves, the first register the high byte (10_state.md R32). -/
theorem views_toNat (s : State) :
    s.af.toNat = s.a.toNat * 256 + s.f.toNat ∧ s.bc.toNat = s.b.toNat * 256 + s.c.toNat ∧
    s.de.toNat = s.d.toNat * 256 + s.e.toNat ∧ s.hl.toNat = s.h.toNat * 256 + s.l.toNat ∧
    s.af'.toNat = s.a'.toNat * 256 + s.f'.toNat ∧ s.bc'.toNat = s.b'.toNat * 256 + s.c'.toNat ∧
    s.de'.toNat = s.d'.toNat * 256 + s.e'.toNat ∧ s.hl'.toNat = s.h'.toNat * 256 + s.l'.toNat :=
  ⟨promote_toNat .., promote_toNat .., promote_toNat .., promote_toNat .., promote_toNat .., promote_toNat ..,
    promote_toNat .., promote_toNat ..⟩

/-- Writing a register and reading one back (10_state.md R35). -/
theorem reg8_setReg8 (s : State) (r q : Reg8) (v : Byte) :
    (s.setReg8 r v).reg8 q = if q = r then v else s.reg8 q := by
  cases r <;> cases q <;> rfl

theorem pair_setPair (s : State) (p q : Pair) (v : Word) :
    (s.setPair p v).pair q = if q = p then v else s.pair q := by
  cases p <;> cases q <;>
    first
    | exact promote_hiByte_loByte v
    | rfl

theorem pairQ_setPairQ (s : State) (p q : PairQ) (v : Word) :
    (s.setPairQ p v).pairQ q = if q = p then v else s.pairQ q := by
  cases p <;> cases q <;>
    first
    | exact promote_hiByte_loByte v
    | rfl

theorem index_setIndex (s : State) (x y : IndexReg) (v : Word) :
    (s.setIndex x v).index y = if y = x then v else s.index y := by
  cases x <;> cases y <;> rfl

/-! ### Locations -/

@[simp] theorem loc8_reg (s : State) (r : Reg8) : s.loc8 (.reg r) = .reg r := rfl
@[simp] theorem loc8_hl (s : State) : s.loc8 .hl = .mem s.hl := rfl
@[simp] theorem loc8_idx (s : State) (x : IndexReg) (d : Byte) : s.loc8 (.idx x d) = .mem (s.ea x d) := rfl
@[simp] theorem readLoc_reg (s : State) (r : Reg8) : s.readLoc (.reg r) = .ok (s.reg8 r) := rfl
@[simp] theorem readLoc_mem (s : State) (a : Word) : s.readLoc (.mem a) = s.readByte a := rfl
@[simp] theorem writeLoc_reg (s : State) (r : Reg8) (v : Byte) : s.writeLoc (.reg r) v = .ok (s.setReg8 r v) := rfl
@[simp] theorem writeLoc_mem (s : State) (a : Word) (v : Byte) : s.writeLoc (.mem a) v = s.writeByte a v := rfl

end Sys2Proof.Machine
end

