-- ==== Sys2Proof/Laws/Operands.lean ====
section
/-! SUPPORT. One lemma for each shape of meaning: the next state it answers when its accesses are inside the buffer,
and the MemoryFault it raises for the first that is not. -/

namespace Sys2Proof.Machine

@[simp] theorem firstOutside_nil (s : State) : s.firstOutside [] = none := rfl

theorem firstOutside_cons (s : State) (a : Word) (k : AccessKind) (l : List (Word × AccessKind)) :
    s.firstOutside ((a, k) :: l) = if s.mem.size ≤ a.toNat then some (a, k) else s.firstOutside l := by
  by_cases h : s.mem.size ≤ a.toNat <;> simp [State.firstOutside, h]

/-- `o` is the next state `t` when every access is inside the buffer of `s`; else `s` with the MemoryFault of the
first access outside raised. -/
def Answers (o : Outcome) (s : State) (accesses : List (Word × AccessKind)) (t : State) : Prop :=
  match s.firstOutside accesses with
  | none => o = .next t
  | some (a, kind) => o = .next (s.raise (.memoryFault a kind s.pc))

/-- What an instruction answers, and a property of the next state, give the form the statements have. -/
theorem Answers.completes {i : Instr} {o : Outcome} {s t : State} {l : List (Word × AccessKind)}
    {P : State → Prop} (h : Answers o s l t) (he : exec i s = o) (hp : P t) : Completes i s l P := by
  subst he
  unfold Answers at h
  unfold Completes
  split
  · next h0 => rw [h0] at h; exact ⟨t, h, hp⟩
  · next h0 => rw [h0] at h; exact h

theorem answers_nil {o : Outcome} {s t : State} : Answers o s [] t ↔ o = .next t := Iff.rfl

theorem answers_cons {o : Outcome} {s t : State} {a : Word} {k : AccessKind} {l : List (Word × AccessKind)} :
    Answers o s ((a, k) :: l) t ↔
      if s.mem.size ≤ a.toNat then o = .next (s.raise (.memoryFault a k s.pc)) else Answers o s l t := by
  unfold Answers
  rw [firstOutside_cons]
  by_cases h : s.mem.size ≤ a.toNat <;> simp [h]

/-- The accesses of a body decide what the frame around it answers. -/
theorem frame_answers_nil {i : Instr} {s u : State} {body : State → Exec State}
    (h : body (s.begin i) = .ok u) : Answers (frame i s body) s [] (u.endStep i) := frame_ok h

theorem frame_answers_one {i : Instr} {s u : State} {body : State → Exec State} {a : Word} {k : AccessKind}
    (hok : a.toNat < s.mem.size → body (s.begin i) = .ok u)
    (herr : s.mem.size ≤ a.toNat → body (s.begin i) = .error { addr := a, kind := k }) :
    Answers (frame i s body) s [(a, k)] (u.endStep i) := by
  rw [answers_cons]
  split
  · next h => exact frame_error (herr h)
  · next h => exact frame_ok (hok (Nat.not_le.mp h))

theorem frame_answers_two {i : Instr} {s u : State} {body : State → Exec State} {a b : Word} {k m : AccessKind}
    (hok : a.toNat < s.mem.size → b.toNat < s.mem.size → body (s.begin i) = .ok u)
    (herr : s.mem.size ≤ a.toNat → body (s.begin i) = .error { addr := a, kind := k })
    (herr' : a.toNat < s.mem.size → s.mem.size ≤ b.toNat → body (s.begin i) = .error { addr := b, kind := m }) :
    Answers (frame i s body) s [(a, k), (b, m)] (u.endStep i) := by
  rw [answers_cons]
  split
  · next h => exact frame_error (herr h)
  · next h =>
    rw [answers_cons]
    split
    · next h' => exact frame_error (herr' (Nat.not_le.mp h) h')
    · next h' => exact frame_ok (hok (Nat.not_le.mp h) (Nat.not_le.mp h'))

/-! ### 8-bit operands -/

/-- An operation that reads an 8-bit operand and then accesses nothing. -/
theorem frame_read_answers (i : Instr) (s : State) (o : Operand8) (op : State → Byte → State) :
    Answers (frame i s fun t => do
      let v ← t.readLoc (t.loc8 o)
      return op t v) s (s.operandReads o) ((op (s.begin i) (s.operandValue o)).endStep i) := by
  cases o with
  | reg r => exact frame_answers_nil rfl
  | hl =>
    refine frame_answers_one (a := s.hl) (fun h => ?_) fun h => ?_
    · show (do let v ← (s.begin i).readByte s.hl; return op (s.begin i) v) = _
      rw [readByte_ok (s := s.begin i) h]; rfl
    · show (do let v ← (s.begin i).readByte s.hl; return op (s.begin i) v) = _
      rw [readByte_error (s := s.begin i) h]; rfl
  | idx x d =>
    have hx : (s.begin i).ea x d = s.ea x d := by cases x <;> rfl
    refine frame_answers_one (a := s.ea x d) (fun h => ?_) fun h => ?_
    · show (do let v ← (s.begin i).readByte ((s.begin i).ea x d); return op (s.begin i) v) = _
      rw [hx, readByte_ok (s := s.begin i) h]; rfl
    · show (do let v ← (s.begin i).readByte ((s.begin i).ea x d); return op (s.begin i) v) = _
      rw [hx, readByte_error (s := s.begin i) h]; rfl

/-- The ALU operations (40_alu8.md R200). -/
theorem aluLoc_answers (i : Instr) (o : Operand8) (op : State → Byte → State) (s : State) :
    Answers (aluLoc i o op s) s (s.operandReads o)
      ((op (s.begin i) (s.operandValue o)).endStep i) := frame_read_answers i s o op

/-- BIT (43_bit.md R310 to R312). -/
theorem testLoc_answers (i : Instr) (b : BitVec 3) (o : Operand8) (s : State) :
    Answers (testLoc i b o s) s (s.operandReads o)
      (((s.begin i).flags (bitEffect (s.operandValue o &&& bitMask b))).endStep i) :=
  frame_read_answers i s o fun t v => t.flags (bitEffect (v &&& bitMask b))

/-- The state in which an 8-bit operand of `s` has been written. -/
def State.writeOperand (s : State) (o : Operand8) (v : Byte) : State :=
  match o with
  | .reg r => s.setReg8 r v
  | .hl => { s with mem := s.mem.set s.hl.toNat v }
  | .idx x d => { s with mem := s.mem.set (s.ea x d).toNat v }

/-- An operation that reads an 8-bit operand and writes it back. -/
theorem frame_readWrite_answers (i : Instr) (s : State) (o : Operand8) (g : Byte → Byte) (k : State → Byte → State) :
    Answers (frame i s fun t => do
      let v ← t.readLoc (t.loc8 o)
      let u ← t.writeLoc (t.loc8 o) (g v)
      return k u v) s (s.operandReadsWrites o)
      ((k ((s.begin i).writeOperand o (g (s.operandValue o))) (s.operandValue o)).endStep i) := by
  cases o with
  | reg r => exact frame_answers_nil rfl
  | hl =>
    refine frame_answers_two (a := s.hl) (b := s.hl) (fun h _ => ?_) (fun h => ?_)
      fun h h' => absurd h (Nat.not_lt.mpr h')
    · show (do
        let v ← (s.begin i).readByte s.hl
        let u ← (s.begin i).writeByte s.hl (g v)
        return k u v) = _
      rw [readByte_ok (s := s.begin i) h, exec_ok_bind, writeByte_ok (s := s.begin i) _ h]; rfl
    · show (do
        let v ← (s.begin i).readByte s.hl
        let u ← (s.begin i).writeByte s.hl (g v)
        return k u v) = _
      rw [readByte_error (s := s.begin i) h]; rfl
  | idx x d =>
    have hx : (s.begin i).ea x d = s.ea x d := by cases x <;> rfl
    refine frame_answers_two (a := s.ea x d) (b := s.ea x d) (fun h _ => ?_) (fun h => ?_)
      fun h h' => absurd h (Nat.not_lt.mpr h')
    · show (do
        let v ← (s.begin i).readByte ((s.begin i).ea x d)
        let u ← (s.begin i).writeByte ((s.begin i).ea x d) (g v)
        return k u v) = _
      rw [hx, readByte_ok (s := s.begin i) h, exec_ok_bind, writeByte_ok (s := s.begin i) _ h, exec_ok_bind]
      simp only [State.writeOperand, hx]; rfl
    · show (do
        let v ← (s.begin i).readByte ((s.begin i).ea x d)
        let u ← (s.begin i).writeByte ((s.begin i).ea x d) (g v)
        return k u v) = _
      rw [hx, readByte_error (s := s.begin i) h]; rfl

/-- INC, DEC, rotates and shifts of an operand (40_alu8.md R210, R211; 42_rotate_shift.md R285). -/
theorem modifyLoc_answers (i : Instr) (o : Operand8) (g : Byte → Byte → Byte × FlagEffect) (s : State) :
    Answers (modifyLoc i o g s) s (s.operandReadsWrites o)
      ((((s.begin i).writeOperand o (g s.f (s.operandValue o)).1).flags (g s.f (s.operandValue o)).2).endStep i) :=
  frame_readWrite_answers i s o (fun v => (g s.f v).1) fun u v => u.flags (g s.f v).2

/-- SET and RES of an operand (43_bit.md R315 to R322). -/
theorem rewriteLoc_answers (i : Instr) (o : Operand8) (g : Byte → Byte) (s : State) :
    Answers (rewriteLoc i o g s) s (s.operandReadsWrites o)
      (((s.begin i).writeOperand o (g (s.operandValue o))).endStep i) := by
  have h := frame_readWrite_answers i s o g fun u _ => u
  simpa only [rewriteLoc, bind_pure] using h

/-- What writing an operand leaves: the operand holds the value, the other registers and bytes are kept. -/
theorem holdsOnly_writeOperand (s u : State) (o : Operand8) (v : Byte)
    (hm : u.mem = ((s.writeOperand o v)).mem) (hr : ∀ q, u.reg8 q = (s.writeOperand o v).reg8 q) :
    holdsOnly s u o v := by
  cases o with
  | reg r =>
    refine ⟨?_, fun q => ?_⟩
    · rw [sameMemory, hm]; exact State.setReg8_mem s r v
    · rw [hr]; show (s.setReg8 r v).reg8 q = _
      rw [reg8_setReg8]
      by_cases hq : q = r
      · subst hq; simp
      · have : ¬(Operand8.reg r = Operand8.reg q) := fun e => hq (Operand8.reg.inj e).symm
        simp [hq, this]
  | hl =>
    refine ⟨⟨by rw [hm]; rfl, fun x => ?_⟩, fun q => (hr q).trans (by cases q <;> rfl)⟩
    rw [hm]; exact Memory.get_set ..
  | idx x d =>
    refine ⟨⟨by rw [hm]; rfl, fun x => ?_⟩, fun q => (hr q).trans (by cases q <;> rfl)⟩
    rw [hm]; exact Memory.get_set ..

/-! ### Loads, stores and the stack -/

/-- The loads of an 8-bit register; the address is one the step frame does not change. -/
theorem loadReg_answers (i : Instr) (r : Reg8) (ea : State → Word) (s : State) (h : ea (s.begin i) = ea s) :
    Answers (loadReg i r ea s) s [(ea s, .read)]
      (((s.begin i).setReg8 r (s.mem.get (ea s).toNat)).endStep i) := by
  refine frame_answers_one (fun h0 => ?_) fun h0 => ?_
  · rw [h, readByte_ok (s := s.begin i) h0]; rfl
  · rw [h, readByte_error (s := s.begin i) h0]; rfl

/-- The stores of a byte. -/
theorem storeByte_answers (i : Instr) (ea : State → Word) (v : State → Byte) (s : State)
    (h : ea (s.begin i) = ea s) (hv : v (s.begin i) = v s) :
    Answers (storeByte i ea v s) s [(ea s, .write)]
      (({ s.begin i with mem := s.mem.set (ea s).toNat (v s) } : State).endStep i) := by
  refine frame_answers_one (u := { s.begin i with mem := s.mem.set (ea s).toNat (v s) }) (fun h0 => ?_) fun h0 => ?_
  · rw [h, hv, writeByte_ok (s := s.begin i) _ h0]; rfl
  · rw [h, writeByte_error (s := s.begin i) _ h0]

/-- The loads of a word from an absolute address. -/
theorem loadWord_answers (i : Instr) (nn : Word) (put : State → Word → State) (s : State) :
    Answers (loadWord i nn put s) s [(nn, .read), (nn + 1, .read)]
      ((put (s.begin i) (promote (s.mem.get (nn + 1).toNat) (s.mem.get nn.toNat))).endStep i) := by
  refine frame_answers_two (fun h0 h1 => ?_) (fun h0 => ?_) fun h0 h1 => ?_
  · rw [readWord_ok (s := s.begin i) h0 h1]; rfl
  · rw [readWord_error_low (s := s.begin i) h0]; rfl
  · rw [readWord_error_high (s := s.begin i) h0 h1]; rfl

/-- The stores of a word. -/
theorem storeWord_answers (i : Instr) (nn : Word) (v : State → Word) (s : State) (hv : v (s.begin i) = v s) :
    Answers (storeWord i nn v s) s [(nn, .write), (nn + 1, .write)]
      (({ s.begin i with
        mem := (s.mem.set nn.toNat (loByte (v s))).set (nn + 1).toNat (hiByte (v s)) } : State).endStep i) := by
  refine frame_answers_two
    (u := { s.begin i with mem := (s.mem.set nn.toNat (loByte (v s))).set (nn + 1).toNat (hiByte (v s)) })
    (fun h0 h1 => ?_) (fun h0 => ?_) fun h0 h1 => ?_
  · rw [hv, writeWord_ok (s := s.begin i) _ h0 h1]; rfl
  · rw [writeWord_error_low (s := s.begin i) _ h0]
  · rw [writeWord_error_high (s := s.begin i) _ h0 h1]

/-- A push followed by an operation that accesses nothing. -/
theorem frame_push_answers (i : Instr) (s : State) (v : State → Word) (k : State → State) :
    Answers (frame i s fun t => do
      let u ← t.push16 (v t)
      return k u) s [(s.sp - 1, .write), (s.sp - 2, .write)]
      ((k { s.begin i with
          sp := s.sp - 2
          mem := (s.mem.set (s.sp - 1).toNat (hiByte (v (s.begin i)))).set (s.sp - 2).toNat
            (loByte (v (s.begin i))) }).endStep i) := by
  refine frame_answers_two (fun h0 h1 => ?_) (fun h0 => ?_) fun h0 h1 => ?_
  · rw [push16_ok (s := s.begin i) _ h0 h1]; rfl
  · rw [push16_error_high (s := s.begin i) _ h0]; rfl
  · rw [push16_error_low (s := s.begin i) _ h0 h1]; rfl

/-- PUSH (45_load.md R395, R396). -/
theorem pushWord_answers (i : Instr) (v : State → Word) (s : State) :
    Answers (pushWord i v s) s [(s.sp - 1, .write), (s.sp - 2, .write)]
      (({ s.begin i with
        sp := s.sp - 2
        mem := (s.mem.set (s.sp - 1).toNat (hiByte (v (s.begin i)))).set (s.sp - 2).toNat
          (loByte (v (s.begin i))) } : State).endStep i) := by
  have h := frame_push_answers i s v fun u => u
  simpa only [pushWord, bind_pure] using h

/-- A pop followed by an operation that accesses nothing. -/
theorem frame_pop_answers (i : Instr) (s : State) (k : Word → State → State) :
    Answers (frame i s fun t => do
      let (v, u) ← t.pop16
      return k v u) s [(s.sp, .read), (s.sp + 1, .read)]
      ((k (promote (s.mem.get (s.sp + 1).toNat) (s.mem.get s.sp.toNat))
        { s.begin i with sp := s.sp + 2 }).endStep i) := by
  refine frame_answers_two (fun h0 h1 => ?_) (fun h0 => ?_) fun h0 h1 => ?_
  · rw [pop16_ok (s := s.begin i) h0 h1]; rfl
  · rw [pop16_error_low (s := s.begin i) h0]; rfl
  · rw [pop16_error_high (s := s.begin i) h0 h1]; rfl

/-- POP (45_load.md R397 to R399). -/
theorem popWord_answers (i : Instr) (put : State → Word → State) (s : State) :
    Answers (popWord i put s) s [(s.sp, .read), (s.sp + 1, .read)]
      ((put { s.begin i with sp := s.sp + 2 }
        (promote (s.mem.get (s.sp + 1).toNat) (s.mem.get s.sp.toNat))).endStep i) := frame_pop_answers i s fun v u => put u v

/-- EX (SP) (44_exchange_block.md R333, R334). -/
theorem exchangeTop_answers (i : Instr) (get : State → Word) (put : State → Word → State) (s : State)
    (hget : get (s.begin i) = get s) :
    Answers (exchangeTop i get put s) s
      [(s.sp, .read), (s.sp + 1, .read), (s.sp, .write), (s.sp + 1, .write)]
      ((put { s.begin i with
          mem := (s.mem.set s.sp.toNat (loByte (get s))).set (s.sp + 1).toNat (hiByte (get s)) }
        (promote (s.mem.get (s.sp + 1).toNat) (s.mem.get s.sp.toNat))).endStep i) := by
  unfold exchangeTop
  rw [answers_cons]
  split
  · next h0 =>
    refine frame_error (e := { addr := s.sp, kind := .read }) ?_
    simp only [State.begin_sp, readByte_error (s := s.begin i) h0, exec_error_bind]
  · next h0 =>
    rw [answers_cons]
    split
    · next h1 =>
      refine frame_error (e := { addr := s.sp + 1, kind := .read }) ?_
      simp only [State.begin_sp, readByte_ok (s := s.begin i) (Nat.not_le.mp h0), exec_ok_bind]
      rw [readByte_error (s := s.begin i) h1, exec_error_bind]
    · next h1 =>
      rw [answers_cons, if_neg h0, answers_cons, if_neg h1]
      refine frame_ok ?_
      simp only [State.begin_sp, readByte_ok (s := s.begin i) (Nat.not_le.mp h0), exec_ok_bind]
      rw [readByte_ok (s := s.begin i) (Nat.not_le.mp h1), exec_ok_bind, hget]
      rw [writeByte_ok (s := s.begin i) _ (Nat.not_le.mp h0), exec_ok_bind]
      have hw := writeByte_ok (s := { s.begin i with mem := s.mem.set s.sp.toNat (loByte (get s)) })
        (hiByte (get s)) (a := s.sp + 1) (Nat.not_le.mp h1)
      exact congrArg (fun x : Exec State => do
        let t ← x
        return put t (promote (s.mem.get (s.sp + 1).toNat) (s.mem.get s.sp.toNat))) hw

/-! ### Block instructions (44_exchange_block.md R335, R342) -/

/-- TransferOne inside the buffer. -/
theorem transferOne_ok {s : State} (delta : Word) (h0 : s.hl.toNat < s.mem.size) (h1 : s.de.toNat < s.mem.size) :
    s.transferOne delta = .ok
      ((((({ s with mem := s.mem.set s.de.toNat (s.mem.get s.hl.toNat) } : State).setHL (s.hl + delta)).setDE
        (s.de + delta)).setBC (s.bc - 1)).flags (transferEffect (s.bc - 1))) := by
  rw [State.transferOne, readByte_ok h0, exec_ok_bind, writeByte_ok _ h1, exec_ok_bind]
  simp only [setBC_bc, exec_pure]
  rfl

theorem transferOne_error_read {s : State} (delta : Word) (h : s.mem.size ≤ s.hl.toNat) :
    s.transferOne delta = .error { addr := s.hl, kind := .read } := by
  rw [State.transferOne, readByte_error h]; rfl

theorem transferOne_error_write {s : State} (delta : Word) (h0 : s.hl.toNat < s.mem.size)
    (h1 : s.mem.size ≤ s.de.toNat) : s.transferOne delta = .error { addr := s.de, kind := .write } := by
  rw [State.transferOne, readByte_ok h0, exec_ok_bind, writeByte_error _ h1]; rfl

/-- CompareOne inside the buffer. -/
theorem compareOne_ok {s : State} (delta : Word) (h : s.hl.toNat < s.mem.size) :
    s.compareOne delta = .ok
      ((sub8 s.a (s.mem.get s.hl.toNat) false).r == 0,
        ((s.setHL (s.hl + delta)).setBC (s.bc - 1)).flags
          (searchEffect (sub8 s.a (s.mem.get s.hl.toNat) false) (s.bc - 1))) := by
  rw [State.compareOne, readByte_ok h, exec_ok_bind]
  simp only [setBC_bc, exec_pure]

theorem compareOne_error {s : State} (delta : Word) (h : s.mem.size ≤ s.hl.toNat) :
    s.compareOne delta = .error { addr := s.hl, kind := .read } := by
  rw [State.compareOne, readByte_error h]; rfl

end Sys2Proof.Machine
end

