-- ==== Sys2Proof/Laws/PerInstr.lean ====
section
/-! SUPPORT. One lemma for every constructor of `Instr`: the words of the instruction are those of its row of the
opcode table. -/

namespace Sys2Proof.Laws.TableRow

/-- A row of the opcode table: the value and the mask of its key bytes, and the keys other rows take. -/
structure Row where
  value : List Byte
  mask : List Byte
  excludes : List (List Byte)

/-- The row of an instruction (spec/opcode_table.json). -/
def row : Instr → Row
  | .addAR .. => { value := [0x80#8], mask := [0xF8#8], excludes := [[0x86#8]] }
  | .addAN .. => { value := [0xC6#8], mask := [0xFF#8], excludes := [] }
  | .addAHl => { value := [0x86#8], mask := [0xFF#8], excludes := [] }
  | .addAIxd .. => { value := [0xDD#8, 0x86#8], mask := [0xFF#8, 0xFF#8], excludes := [] }
  | .addAIyd .. => { value := [0xFD#8, 0x86#8], mask := [0xFF#8, 0xFF#8], excludes := [] }
  | .adcAR .. => { value := [0x88#8], mask := [0xF8#8], excludes := [[0x8E#8]] }
  | .adcAN .. => { value := [0xCE#8], mask := [0xFF#8], excludes := [] }
  | .adcAHl => { value := [0x8E#8], mask := [0xFF#8], excludes := [] }
  | .adcAIxd .. => { value := [0xDD#8, 0x8E#8], mask := [0xFF#8, 0xFF#8], excludes := [] }
  | .adcAIyd .. => { value := [0xFD#8, 0x8E#8], mask := [0xFF#8, 0xFF#8], excludes := [] }
  | .subR .. => { value := [0x90#8], mask := [0xF8#8], excludes := [[0x96#8]] }
  | .subN .. => { value := [0xD6#8], mask := [0xFF#8], excludes := [] }
  | .subHl => { value := [0x96#8], mask := [0xFF#8], excludes := [] }
  | .subIxd .. => { value := [0xDD#8, 0x96#8], mask := [0xFF#8, 0xFF#8], excludes := [] }
  | .subIyd .. => { value := [0xFD#8, 0x96#8], mask := [0xFF#8, 0xFF#8], excludes := [] }
  | .sbcAR .. => { value := [0x98#8], mask := [0xF8#8], excludes := [[0x9E#8]] }
  | .sbcAN .. => { value := [0xDE#8], mask := [0xFF#8], excludes := [] }
  | .sbcAHl => { value := [0x9E#8], mask := [0xFF#8], excludes := [] }
  | .sbcAIxd .. => { value := [0xDD#8, 0x9E#8], mask := [0xFF#8, 0xFF#8], excludes := [] }
  | .sbcAIyd .. => { value := [0xFD#8, 0x9E#8], mask := [0xFF#8, 0xFF#8], excludes := [] }
  | .andR .. => { value := [0xA0#8], mask := [0xF8#8], excludes := [[0xA6#8]] }
  | .andN .. => { value := [0xE6#8], mask := [0xFF#8], excludes := [] }
  | .andHl => { value := [0xA6#8], mask := [0xFF#8], excludes := [] }
  | .andIxd .. => { value := [0xDD#8, 0xA6#8], mask := [0xFF#8, 0xFF#8], excludes := [] }
  | .andIyd .. => { value := [0xFD#8, 0xA6#8], mask := [0xFF#8, 0xFF#8], excludes := [] }
  | .xorR .. => { value := [0xA8#8], mask := [0xF8#8], excludes := [[0xAE#8]] }
  | .xorN .. => { value := [0xEE#8], mask := [0xFF#8], excludes := [] }
  | .xorHl => { value := [0xAE#8], mask := [0xFF#8], excludes := [] }
  | .xorIxd .. => { value := [0xDD#8, 0xAE#8], mask := [0xFF#8, 0xFF#8], excludes := [] }
  | .xorIyd .. => { value := [0xFD#8, 0xAE#8], mask := [0xFF#8, 0xFF#8], excludes := [] }
  | .orR .. => { value := [0xB0#8], mask := [0xF8#8], excludes := [[0xB6#8]] }
  | .orN .. => { value := [0xF6#8], mask := [0xFF#8], excludes := [] }
  | .orHl => { value := [0xB6#8], mask := [0xFF#8], excludes := [] }
  | .orIxd .. => { value := [0xDD#8, 0xB6#8], mask := [0xFF#8, 0xFF#8], excludes := [] }
  | .orIyd .. => { value := [0xFD#8, 0xB6#8], mask := [0xFF#8, 0xFF#8], excludes := [] }
  | .cpR .. => { value := [0xB8#8], mask := [0xF8#8], excludes := [[0xBE#8]] }
  | .cpN .. => { value := [0xFE#8], mask := [0xFF#8], excludes := [] }
  | .cpHl => { value := [0xBE#8], mask := [0xFF#8], excludes := [] }
  | .cpIxd .. => { value := [0xDD#8, 0xBE#8], mask := [0xFF#8, 0xFF#8], excludes := [] }
  | .cpIyd .. => { value := [0xFD#8, 0xBE#8], mask := [0xFF#8, 0xFF#8], excludes := [] }
  | .incR .. => { value := [0x04#8], mask := [0xC7#8], excludes := [[0x34#8]] }
  | .incHl => { value := [0x34#8], mask := [0xFF#8], excludes := [] }
  | .incIxd .. => { value := [0xDD#8, 0x34#8], mask := [0xFF#8, 0xFF#8], excludes := [] }
  | .incIyd .. => { value := [0xFD#8, 0x34#8], mask := [0xFF#8, 0xFF#8], excludes := [] }
  | .decR .. => { value := [0x05#8], mask := [0xC7#8], excludes := [[0x35#8]] }
  | .decHl => { value := [0x35#8], mask := [0xFF#8], excludes := [] }
  | .decIxd .. => { value := [0xDD#8, 0x35#8], mask := [0xFF#8, 0xFF#8], excludes := [] }
  | .decIyd .. => { value := [0xFD#8, 0x35#8], mask := [0xFF#8, 0xFF#8], excludes := [] }
  | .daa => { value := [0x27#8], mask := [0xFF#8], excludes := [] }
  | .cpl => { value := [0x2F#8], mask := [0xFF#8], excludes := [] }
  | .ccf => { value := [0x3F#8], mask := [0xFF#8], excludes := [] }
  | .scf => { value := [0x37#8], mask := [0xFF#8], excludes := [] }
  | .neg => { value := [0xED#8, 0x44#8], mask := [0xFF#8, 0xFF#8], excludes := [] }
  | .addHlSs .. => { value := [0x09#8], mask := [0xCF#8], excludes := [] }
  | .adcHlSs .. => { value := [0xED#8, 0x4A#8], mask := [0xFF#8, 0xCF#8], excludes := [] }
  | .sbcHlSs .. => { value := [0xED#8, 0x42#8], mask := [0xFF#8, 0xCF#8], excludes := [] }
  | .addIxPp .. => { value := [0xDD#8, 0x09#8], mask := [0xFF#8, 0xCF#8], excludes := [] }
  | .addIyRr .. => { value := [0xFD#8, 0x09#8], mask := [0xFF#8, 0xCF#8], excludes := [] }
  | .incSs .. => { value := [0x03#8], mask := [0xCF#8], excludes := [] }
  | .decSs .. => { value := [0x0B#8], mask := [0xCF#8], excludes := [] }
  | .incIx => { value := [0xDD#8, 0x23#8], mask := [0xFF#8, 0xFF#8], excludes := [] }
  | .decIx => { value := [0xDD#8, 0x2B#8], mask := [0xFF#8, 0xFF#8], excludes := [] }
  | .incIy => { value := [0xFD#8, 0x23#8], mask := [0xFF#8, 0xFF#8], excludes := [] }
  | .decIy => { value := [0xFD#8, 0x2B#8], mask := [0xFF#8, 0xFF#8], excludes := [] }
  | .rlca => { value := [0x07#8], mask := [0xFF#8], excludes := [] }
  | .rrca => { value := [0x0F#8], mask := [0xFF#8], excludes := [] }
  | .rla => { value := [0x17#8], mask := [0xFF#8], excludes := [] }
  | .rra => { value := [0x1F#8], mask := [0xFF#8], excludes := [] }
  | .rlcR .. => { value := [0xCB#8, 0x00#8], mask := [0xFF#8, 0xF8#8], excludes := [[0xCB#8, 0x06#8]] }
  | .rlcHl => { value := [0xCB#8, 0x06#8], mask := [0xFF#8, 0xFF#8], excludes := [] }
  | .rlcIxd .. => { value := [0xDD#8, 0xCB#8, 0x06#8], mask := [0xFF#8, 0xFF#8, 0xFF#8], excludes := [] }
  | .rlcIyd .. => { value := [0xFD#8, 0xCB#8, 0x06#8], mask := [0xFF#8, 0xFF#8, 0xFF#8], excludes := [] }
  | .rrcR .. => { value := [0xCB#8, 0x08#8], mask := [0xFF#8, 0xF8#8], excludes := [[0xCB#8, 0x0E#8]] }
  | .rrcHl => { value := [0xCB#8, 0x0E#8], mask := [0xFF#8, 0xFF#8], excludes := [] }
  | .rrcIxd .. => { value := [0xDD#8, 0xCB#8, 0x0E#8], mask := [0xFF#8, 0xFF#8, 0xFF#8], excludes := [] }
  | .rrcIyd .. => { value := [0xFD#8, 0xCB#8, 0x0E#8], mask := [0xFF#8, 0xFF#8, 0xFF#8], excludes := [] }
  | .rlR .. => { value := [0xCB#8, 0x10#8], mask := [0xFF#8, 0xF8#8], excludes := [[0xCB#8, 0x16#8]] }
  | .rlHl => { value := [0xCB#8, 0x16#8], mask := [0xFF#8, 0xFF#8], excludes := [] }
  | .rlIxd .. => { value := [0xDD#8, 0xCB#8, 0x16#8], mask := [0xFF#8, 0xFF#8, 0xFF#8], excludes := [] }
  | .rlIyd .. => { value := [0xFD#8, 0xCB#8, 0x16#8], mask := [0xFF#8, 0xFF#8, 0xFF#8], excludes := [] }
  | .rrR .. => { value := [0xCB#8, 0x18#8], mask := [0xFF#8, 0xF8#8], excludes := [[0xCB#8, 0x1E#8]] }
  | .rrHl => { value := [0xCB#8, 0x1E#8], mask := [0xFF#8, 0xFF#8], excludes := [] }
  | .rrIxd .. => { value := [0xDD#8, 0xCB#8, 0x1E#8], mask := [0xFF#8, 0xFF#8, 0xFF#8], excludes := [] }
  | .rrIyd .. => { value := [0xFD#8, 0xCB#8, 0x1E#8], mask := [0xFF#8, 0xFF#8, 0xFF#8], excludes := [] }
  | .slaR .. => { value := [0xCB#8, 0x20#8], mask := [0xFF#8, 0xF8#8], excludes := [[0xCB#8, 0x26#8]] }
  | .slaHl => { value := [0xCB#8, 0x26#8], mask := [0xFF#8, 0xFF#8], excludes := [] }
  | .slaIxd .. => { value := [0xDD#8, 0xCB#8, 0x26#8], mask := [0xFF#8, 0xFF#8, 0xFF#8], excludes := [] }
  | .slaIyd .. => { value := [0xFD#8, 0xCB#8, 0x26#8], mask := [0xFF#8, 0xFF#8, 0xFF#8], excludes := [] }
  | .sraR .. => { value := [0xCB#8, 0x28#8], mask := [0xFF#8, 0xF8#8], excludes := [[0xCB#8, 0x2E#8]] }
  | .sraHl => { value := [0xCB#8, 0x2E#8], mask := [0xFF#8, 0xFF#8], excludes := [] }
  | .sraIxd .. => { value := [0xDD#8, 0xCB#8, 0x2E#8], mask := [0xFF#8, 0xFF#8, 0xFF#8], excludes := [] }
  | .sraIyd .. => { value := [0xFD#8, 0xCB#8, 0x2E#8], mask := [0xFF#8, 0xFF#8, 0xFF#8], excludes := [] }
  | .srlR .. => { value := [0xCB#8, 0x38#8], mask := [0xFF#8, 0xF8#8], excludes := [[0xCB#8, 0x3E#8]] }
  | .srlHl => { value := [0xCB#8, 0x3E#8], mask := [0xFF#8, 0xFF#8], excludes := [] }
  | .srlIxd .. => { value := [0xDD#8, 0xCB#8, 0x3E#8], mask := [0xFF#8, 0xFF#8, 0xFF#8], excludes := [] }
  | .srlIyd .. => { value := [0xFD#8, 0xCB#8, 0x3E#8], mask := [0xFF#8, 0xFF#8, 0xFF#8], excludes := [] }
  | .rld => { value := [0xED#8, 0x6F#8], mask := [0xFF#8, 0xFF#8], excludes := [] }
  | .rrd => { value := [0xED#8, 0x67#8], mask := [0xFF#8, 0xFF#8], excludes := [] }
  | .bitR .. => { value := [0xCB#8, 0x40#8], mask := [0xFF#8, 0xC0#8], excludes := [[0xCB#8, 0x46#8],
      [0xCB#8, 0x4E#8], [0xCB#8, 0x56#8], [0xCB#8, 0x5E#8], [0xCB#8, 0x66#8], [0xCB#8, 0x6E#8], [0xCB#8, 0x76#8],
      [0xCB#8, 0x7E#8]] }
  | .bitHl .. => { value := [0xCB#8, 0x46#8], mask := [0xFF#8, 0xC7#8], excludes := [] }
  | .bitIxd .. => { value := [0xDD#8, 0xCB#8, 0x46#8], mask := [0xFF#8, 0xFF#8, 0xC7#8], excludes := [] }
  | .bitIyd .. => { value := [0xFD#8, 0xCB#8, 0x46#8], mask := [0xFF#8, 0xFF#8, 0xC7#8], excludes := [] }
  | .resR .. => { value := [0xCB#8, 0x80#8], mask := [0xFF#8, 0xC0#8], excludes := [[0xCB#8, 0x86#8],
      [0xCB#8, 0x8E#8], [0xCB#8, 0x96#8], [0xCB#8, 0x9E#8], [0xCB#8, 0xA6#8], [0xCB#8, 0xAE#8], [0xCB#8, 0xB6#8],
      [0xCB#8, 0xBE#8]] }
  | .resHl .. => { value := [0xCB#8, 0x86#8], mask := [0xFF#8, 0xC7#8], excludes := [] }
  | .resIxd .. => { value := [0xDD#8, 0xCB#8, 0x86#8], mask := [0xFF#8, 0xFF#8, 0xC7#8], excludes := [] }
  | .resIyd .. => { value := [0xFD#8, 0xCB#8, 0x86#8], mask := [0xFF#8, 0xFF#8, 0xC7#8], excludes := [] }
  | .setR .. => { value := [0xCB#8, 0xC0#8], mask := [0xFF#8, 0xC0#8], excludes := [[0xCB#8, 0xC6#8],
      [0xCB#8, 0xCE#8], [0xCB#8, 0xD6#8], [0xCB#8, 0xDE#8], [0xCB#8, 0xE6#8], [0xCB#8, 0xEE#8], [0xCB#8, 0xF6#8],
      [0xCB#8, 0xFE#8]] }
  | .setHl .. => { value := [0xCB#8, 0xC6#8], mask := [0xFF#8, 0xC7#8], excludes := [] }
  | .setIxd .. => { value := [0xDD#8, 0xCB#8, 0xC6#8], mask := [0xFF#8, 0xFF#8, 0xC7#8], excludes := [] }
  | .setIyd .. => { value := [0xFD#8, 0xCB#8, 0xC6#8], mask := [0xFF#8, 0xFF#8, 0xC7#8], excludes := [] }
  | .exDeHl => { value := [0xEB#8], mask := [0xFF#8], excludes := [] }
  | .exx => { value := [0xD9#8], mask := [0xFF#8], excludes := [] }
  | .exAfAf => { value := [0x08#8], mask := [0xFF#8], excludes := [] }
  | .exSpHl => { value := [0xE3#8], mask := [0xFF#8], excludes := [] }
  | .exSpIx => { value := [0xDD#8, 0xE3#8], mask := [0xFF#8, 0xFF#8], excludes := [] }
  | .exSpIy => { value := [0xFD#8, 0xE3#8], mask := [0xFF#8, 0xFF#8], excludes := [] }
  | .ldi => { value := [0xED#8, 0xA0#8], mask := [0xFF#8, 0xFF#8], excludes := [] }
  | .ldd => { value := [0xED#8, 0xA8#8], mask := [0xFF#8, 0xFF#8], excludes := [] }
  | .ldir => { value := [0xED#8, 0xB0#8], mask := [0xFF#8, 0xFF#8], excludes := [] }
  | .lddr => { value := [0xED#8, 0xB8#8], mask := [0xFF#8, 0xFF#8], excludes := [] }
  | .cpi => { value := [0xED#8, 0xA1#8], mask := [0xFF#8, 0xFF#8], excludes := [] }
  | .cpd => { value := [0xED#8, 0xA9#8], mask := [0xFF#8, 0xFF#8], excludes := [] }
  | .cpir => { value := [0xED#8, 0xB1#8], mask := [0xFF#8, 0xFF#8], excludes := [] }
  | .cpdr => { value := [0xED#8, 0xB9#8], mask := [0xFF#8, 0xFF#8], excludes := [] }
  | .ldRR .. => { value := [0x40#8], mask := [0xC0#8], excludes := [[0x46#8], [0x4E#8], [0x56#8], [0x5E#8],
      [0x66#8], [0x6E#8], [0x76#8], [0x7E#8], [0x70#8], [0x71#8], [0x72#8], [0x73#8], [0x74#8], [0x75#8], [0x77#8]] }
  | .ldRN .. => { value := [0x06#8], mask := [0xC7#8], excludes := [[0x36#8]] }
  | .ldRHl .. => { value := [0x46#8], mask := [0xC7#8], excludes := [[0x76#8]] }
  | .ldRIxd .. => { value := [0xDD#8, 0x46#8], mask := [0xFF#8, 0xC7#8], excludes := [[0xDD#8, 0x76#8]] }
  | .ldRIyd .. => { value := [0xFD#8, 0x46#8], mask := [0xFF#8, 0xC7#8], excludes := [[0xFD#8, 0x76#8]] }
  | .ldHlR .. => { value := [0x70#8], mask := [0xF8#8], excludes := [[0x76#8]] }
  | .ldIxdR .. => { value := [0xDD#8, 0x70#8], mask := [0xFF#8, 0xF8#8], excludes := [[0xDD#8, 0x76#8]] }
  | .ldIydR .. => { value := [0xFD#8, 0x70#8], mask := [0xFF#8, 0xF8#8], excludes := [[0xFD#8, 0x76#8]] }
  | .ldHlN .. => { value := [0x36#8], mask := [0xFF#8], excludes := [] }
  | .ldIxdN .. => { value := [0xDD#8, 0x36#8], mask := [0xFF#8, 0xFF#8], excludes := [] }
  | .ldIydN .. => { value := [0xFD#8, 0x36#8], mask := [0xFF#8, 0xFF#8], excludes := [] }
  | .ldABc => { value := [0x0A#8], mask := [0xFF#8], excludes := [] }
  | .ldADe => { value := [0x1A#8], mask := [0xFF#8], excludes := [] }
  | .ldAMem .. => { value := [0x3A#8], mask := [0xFF#8], excludes := [] }
  | .ldBcA => { value := [0x02#8], mask := [0xFF#8], excludes := [] }
  | .ldDeA => { value := [0x12#8], mask := [0xFF#8], excludes := [] }
  | .ldMemA .. => { value := [0x32#8], mask := [0xFF#8], excludes := [] }
  | .ldAI => { value := [0xED#8, 0x57#8], mask := [0xFF#8, 0xFF#8], excludes := [] }
  | .ldAR => { value := [0xED#8, 0x5F#8], mask := [0xFF#8, 0xFF#8], excludes := [] }
  | .ldIA => { value := [0xED#8, 0x47#8], mask := [0xFF#8, 0xFF#8], excludes := [] }
  | .ldRA => { value := [0xED#8, 0x4F#8], mask := [0xFF#8, 0xFF#8], excludes := [] }
  | .ldDdNn .. => { value := [0x01#8], mask := [0xCF#8], excludes := [] }
  | .ldIxNn .. => { value := [0xDD#8, 0x21#8], mask := [0xFF#8, 0xFF#8], excludes := [] }
  | .ldIyNn .. => { value := [0xFD#8, 0x21#8], mask := [0xFF#8, 0xFF#8], excludes := [] }
  | .ldHlMem .. => { value := [0x2A#8], mask := [0xFF#8], excludes := [] }
  | .ldDdMem .. => { value := [0xED#8, 0x4B#8], mask := [0xFF#8, 0xCF#8], excludes := [] }
  | .ldIxMem .. => { value := [0xDD#8, 0x2A#8], mask := [0xFF#8, 0xFF#8], excludes := [] }
  | .ldIyMem .. => { value := [0xFD#8, 0x2A#8], mask := [0xFF#8, 0xFF#8], excludes := [] }
  | .ldMemHl .. => { value := [0x22#8], mask := [0xFF#8], excludes := [] }
  | .ldMemDd .. => { value := [0xED#8, 0x43#8], mask := [0xFF#8, 0xCF#8], excludes := [] }
  | .ldMemIx .. => { value := [0xDD#8, 0x22#8], mask := [0xFF#8, 0xFF#8], excludes := [] }
  | .ldMemIy .. => { value := [0xFD#8, 0x22#8], mask := [0xFF#8, 0xFF#8], excludes := [] }
  | .ldSpHl => { value := [0xF9#8], mask := [0xFF#8], excludes := [] }
  | .ldSpIx => { value := [0xDD#8, 0xF9#8], mask := [0xFF#8, 0xFF#8], excludes := [] }
  | .ldSpIy => { value := [0xFD#8, 0xF9#8], mask := [0xFF#8, 0xFF#8], excludes := [] }
  | .pushQq .. => { value := [0xC5#8], mask := [0xCF#8], excludes := [] }
  | .pushIx => { value := [0xDD#8, 0xE5#8], mask := [0xFF#8, 0xFF#8], excludes := [] }
  | .pushIy => { value := [0xFD#8, 0xE5#8], mask := [0xFF#8, 0xFF#8], excludes := [] }
  | .popQq .. => { value := [0xC1#8], mask := [0xCF#8], excludes := [[0xF1#8]] }
  | .popAf => { value := [0xF1#8], mask := [0xFF#8], excludes := [] }
  | .popIx => { value := [0xDD#8, 0xE1#8], mask := [0xFF#8, 0xFF#8], excludes := [] }
  | .popIy => { value := [0xFD#8, 0xE1#8], mask := [0xFF#8, 0xFF#8], excludes := [] }
  | .jpNn .. => { value := [0xC3#8], mask := [0xFF#8], excludes := [] }
  | .jpCcNn .. => { value := [0xC2#8], mask := [0xC7#8], excludes := [] }
  | .jrE .. => { value := [0x18#8], mask := [0xFF#8], excludes := [] }
  | .jrJE .. => { value := [0x20#8], mask := [0xE7#8], excludes := [] }
  | .djnzE .. => { value := [0x10#8], mask := [0xFF#8], excludes := [] }
  | .jpHl => { value := [0xE9#8], mask := [0xFF#8], excludes := [] }
  | .jpIx => { value := [0xDD#8, 0xE9#8], mask := [0xFF#8, 0xFF#8], excludes := [] }
  | .jpIy => { value := [0xFD#8, 0xE9#8], mask := [0xFF#8, 0xFF#8], excludes := [] }
  | .callNn .. => { value := [0xCD#8], mask := [0xFF#8], excludes := [] }
  | .callCcNn .. => { value := [0xC4#8], mask := [0xC7#8], excludes := [] }
  | .ret => { value := [0xC9#8], mask := [0xFF#8], excludes := [] }
  | .retCc .. => { value := [0xC0#8], mask := [0xC7#8], excludes := [] }
  | .reti => { value := [0xED#8, 0x4D#8], mask := [0xFF#8, 0xFF#8], excludes := [] }
  | .retn => { value := [0xED#8, 0x45#8], mask := [0xFF#8, 0xFF#8], excludes := [] }
  | .rstT .. => { value := [0xC7#8], mask := [0xC7#8], excludes := [] }
  | .nop => { value := [0x00#8], mask := [0xFF#8], excludes := [] }
  | .halt => { value := [0x76#8], mask := [0xFF#8], excludes := [] }
  | .di => { value := [0xF3#8], mask := [0xFF#8], excludes := [] }
  | .ei => { value := [0xFB#8], mask := [0xFF#8], excludes := [] }
  | .im0 => { value := [0xED#8, 0x46#8], mask := [0xFF#8, 0xFF#8], excludes := [] }
  | .im1 => { value := [0xED#8, 0x56#8], mask := [0xFF#8, 0xFF#8], excludes := [] }
  | .im2 => { value := [0xED#8, 0x5E#8], mask := [0xFF#8, 0xFF#8], excludes := [] }
  | .inAN .. => { value := [0xDB#8], mask := [0xFF#8], excludes := [] }
  | .outNA .. => { value := [0xD3#8], mask := [0xFF#8], excludes := [] }
  | .inRC .. => { value := [0xED#8, 0x40#8], mask := [0xFF#8, 0xC7#8], excludes := [[0xED#8, 0x70#8]] }
  | .outCR .. => { value := [0xED#8, 0x41#8], mask := [0xFF#8, 0xC7#8], excludes := [[0xED#8, 0x71#8]] }
  | .ini => { value := [0xED#8, 0xA2#8], mask := [0xFF#8, 0xFF#8], excludes := [] }
  | .ind => { value := [0xED#8, 0xAA#8], mask := [0xFF#8, 0xFF#8], excludes := [] }
  | .inir => { value := [0xED#8, 0xB2#8], mask := [0xFF#8, 0xFF#8], excludes := [] }
  | .indr => { value := [0xED#8, 0xBA#8], mask := [0xFF#8, 0xFF#8], excludes := [] }
  | .outi => { value := [0xED#8, 0xA3#8], mask := [0xFF#8, 0xFF#8], excludes := [] }
  | .outd => { value := [0xED#8, 0xAB#8], mask := [0xFF#8, 0xFF#8], excludes := [] }
  | .otir => { value := [0xED#8, 0xB3#8], mask := [0xFF#8, 0xFF#8], excludes := [] }
  | .otdr => { value := [0xED#8, 0xBB#8], mask := [0xFF#8, 0xFF#8], excludes := [] }

/-- A key belongs to a row: under the row's mask it is the row's value, and it is none of the keys the row leaves to
another row (30_encoding.md R147). -/
def Row.accepts (r : Row) (key : List Byte) : Bool :=
  key.zipWith (fun v m => v &&& m) r.mask == r.value && r.excludes.all (fun k => k != key)

/-- The key of an instruction: its first bytes, bytes 0, 1 and 3 in format XCB4 (30_encoding.md R147). -/
def key (i : Instr) : List Byte :=
  match i.format, encode i with
  | .xcb4, [b0, b1, _, b3] => [b0, b1, b3]
  | _, bytes => bytes.take (row i).value.length

/-- The words of an instruction are words of its own row. -/
def Statement (i : Instr) : Prop := i.wf = true → (row i).accepts (key i) = true

theorem bitNumber_cases : ∀ b : BitVec 3, b = 0 ∨ b = 1 ∨ b = 2 ∨ b = 3 ∨ b = 4 ∨ b = 5 ∨ b = 6 ∨ b = 7 := by decide

theorem addAR (r : Reg8) : Statement (.addAR r) := fun _ => by
  cases r <;> rfl

theorem addAN (n : Byte) : Statement (.addAN n) := fun _ => rfl

theorem addAHl : Statement .addAHl := fun _ => rfl

theorem addAIxd (d : Byte) : Statement (.addAIxd d) := fun _ => rfl

theorem addAIyd (d : Byte) : Statement (.addAIyd d) := fun _ => rfl

theorem adcAR (r : Reg8) : Statement (.adcAR r) := fun _ => by
  cases r <;> rfl

theorem adcAN (n : Byte) : Statement (.adcAN n) := fun _ => rfl

theorem adcAHl : Statement .adcAHl := fun _ => rfl

theorem adcAIxd (d : Byte) : Statement (.adcAIxd d) := fun _ => rfl

theorem adcAIyd (d : Byte) : Statement (.adcAIyd d) := fun _ => rfl

theorem subR (r : Reg8) : Statement (.subR r) := fun _ => by
  cases r <;> rfl

theorem subN (n : Byte) : Statement (.subN n) := fun _ => rfl

theorem subHl : Statement .subHl := fun _ => rfl

theorem subIxd (d : Byte) : Statement (.subIxd d) := fun _ => rfl

theorem subIyd (d : Byte) : Statement (.subIyd d) := fun _ => rfl

theorem sbcAR (r : Reg8) : Statement (.sbcAR r) := fun _ => by
  cases r <;> rfl

theorem sbcAN (n : Byte) : Statement (.sbcAN n) := fun _ => rfl

theorem sbcAHl : Statement .sbcAHl := fun _ => rfl

theorem sbcAIxd (d : Byte) : Statement (.sbcAIxd d) := fun _ => rfl

theorem sbcAIyd (d : Byte) : Statement (.sbcAIyd d) := fun _ => rfl

theorem andR (r : Reg8) : Statement (.andR r) := fun _ => by
  cases r <;> rfl

theorem andN (n : Byte) : Statement (.andN n) := fun _ => rfl

theorem andHl : Statement .andHl := fun _ => rfl

theorem andIxd (d : Byte) : Statement (.andIxd d) := fun _ => rfl

theorem andIyd (d : Byte) : Statement (.andIyd d) := fun _ => rfl

theorem xorR (r : Reg8) : Statement (.xorR r) := fun _ => by
  cases r <;> rfl

theorem xorN (n : Byte) : Statement (.xorN n) := fun _ => rfl

theorem xorHl : Statement .xorHl := fun _ => rfl

theorem xorIxd (d : Byte) : Statement (.xorIxd d) := fun _ => rfl

theorem xorIyd (d : Byte) : Statement (.xorIyd d) := fun _ => rfl

theorem orR (r : Reg8) : Statement (.orR r) := fun _ => by
  cases r <;> rfl

theorem orN (n : Byte) : Statement (.orN n) := fun _ => rfl

theorem orHl : Statement .orHl := fun _ => rfl

theorem orIxd (d : Byte) : Statement (.orIxd d) := fun _ => rfl

theorem orIyd (d : Byte) : Statement (.orIyd d) := fun _ => rfl

theorem cpR (r : Reg8) : Statement (.cpR r) := fun _ => by
  cases r <;> rfl

theorem cpN (n : Byte) : Statement (.cpN n) := fun _ => rfl

theorem cpHl : Statement .cpHl := fun _ => rfl

theorem cpIxd (d : Byte) : Statement (.cpIxd d) := fun _ => rfl

theorem cpIyd (d : Byte) : Statement (.cpIyd d) := fun _ => rfl

theorem incR (r : Reg8) : Statement (.incR r) := fun _ => by
  cases r <;> rfl

theorem incHl : Statement .incHl := fun _ => rfl

theorem incIxd (d : Byte) : Statement (.incIxd d) := fun _ => rfl

theorem incIyd (d : Byte) : Statement (.incIyd d) := fun _ => rfl

theorem decR (r : Reg8) : Statement (.decR r) := fun _ => by
  cases r <;> rfl

theorem decHl : Statement .decHl := fun _ => rfl

theorem decIxd (d : Byte) : Statement (.decIxd d) := fun _ => rfl

theorem decIyd (d : Byte) : Statement (.decIyd d) := fun _ => rfl

theorem daa : Statement .daa := fun _ => rfl

theorem cpl : Statement .cpl := fun _ => rfl

theorem ccf : Statement .ccf := fun _ => rfl

theorem scf : Statement .scf := fun _ => rfl

theorem neg : Statement .neg := fun _ => rfl

theorem addHlSs (ss : Pair) : Statement (.addHlSs ss) := fun _ => by
  cases ss <;> rfl

theorem adcHlSs (ss : Pair) : Statement (.adcHlSs ss) := fun _ => by
  cases ss <;> rfl

theorem sbcHlSs (ss : Pair) : Statement (.sbcHlSs ss) := fun _ => by
  cases ss <;> rfl

theorem addIxPp (pp : PairX) : Statement (.addIxPp pp) := fun _ => by
  cases pp <;> rfl

theorem addIyRr (rr : PairX) : Statement (.addIyRr rr) := fun _ => by
  cases rr <;> rfl

theorem incSs (ss : Pair) : Statement (.incSs ss) := fun _ => by
  cases ss <;> rfl

theorem decSs (ss : Pair) : Statement (.decSs ss) := fun _ => by
  cases ss <;> rfl

theorem incIx : Statement .incIx := fun _ => rfl

theorem decIx : Statement .decIx := fun _ => rfl

theorem incIy : Statement .incIy := fun _ => rfl

theorem decIy : Statement .decIy := fun _ => rfl

theorem rlca : Statement .rlca := fun _ => rfl

theorem rrca : Statement .rrca := fun _ => rfl

theorem rla : Statement .rla := fun _ => rfl

theorem rra : Statement .rra := fun _ => rfl

theorem rlcR (r : Reg8) : Statement (.rlcR r) := fun _ => by
  cases r <;> rfl

theorem rlcHl : Statement .rlcHl := fun _ => rfl

theorem rlcIxd (d : Byte) : Statement (.rlcIxd d) := fun _ => rfl

theorem rlcIyd (d : Byte) : Statement (.rlcIyd d) := fun _ => rfl

theorem rrcR (r : Reg8) : Statement (.rrcR r) := fun _ => by
  cases r <;> rfl

theorem rrcHl : Statement .rrcHl := fun _ => rfl

theorem rrcIxd (d : Byte) : Statement (.rrcIxd d) := fun _ => rfl

theorem rrcIyd (d : Byte) : Statement (.rrcIyd d) := fun _ => rfl

theorem rlR (r : Reg8) : Statement (.rlR r) := fun _ => by
  cases r <;> rfl

theorem rlHl : Statement .rlHl := fun _ => rfl

theorem rlIxd (d : Byte) : Statement (.rlIxd d) := fun _ => rfl

theorem rlIyd (d : Byte) : Statement (.rlIyd d) := fun _ => rfl

theorem rrR (r : Reg8) : Statement (.rrR r) := fun _ => by
  cases r <;> rfl

theorem rrHl : Statement .rrHl := fun _ => rfl

theorem rrIxd (d : Byte) : Statement (.rrIxd d) := fun _ => rfl

theorem rrIyd (d : Byte) : Statement (.rrIyd d) := fun _ => rfl

theorem slaR (r : Reg8) : Statement (.slaR r) := fun _ => by
  cases r <;> rfl

theorem slaHl : Statement .slaHl := fun _ => rfl

theorem slaIxd (d : Byte) : Statement (.slaIxd d) := fun _ => rfl

theorem slaIyd (d : Byte) : Statement (.slaIyd d) := fun _ => rfl

theorem sraR (r : Reg8) : Statement (.sraR r) := fun _ => by
  cases r <;> rfl

theorem sraHl : Statement .sraHl := fun _ => rfl

theorem sraIxd (d : Byte) : Statement (.sraIxd d) := fun _ => rfl

theorem sraIyd (d : Byte) : Statement (.sraIyd d) := fun _ => rfl

theorem srlR (r : Reg8) : Statement (.srlR r) := fun _ => by
  cases r <;> rfl

theorem srlHl : Statement .srlHl := fun _ => rfl

theorem srlIxd (d : Byte) : Statement (.srlIxd d) := fun _ => rfl

theorem srlIyd (d : Byte) : Statement (.srlIyd d) := fun _ => rfl

theorem rld : Statement .rld := fun _ => rfl

theorem rrd : Statement .rrd := fun _ => rfl

theorem bitR (b : BitVec 3) (r : Reg8) : Statement (.bitR b r) := fun _ => by
  rcases bitNumber_cases b with rfl | rfl | rfl | rfl | rfl | rfl | rfl | rfl <;> cases r <;> rfl

theorem bitHl (b : BitVec 3) : Statement (.bitHl b) := fun _ => by
  rcases bitNumber_cases b with rfl | rfl | rfl | rfl | rfl | rfl | rfl | rfl <;> rfl

theorem bitIxd (b : BitVec 3) (d : Byte) : Statement (.bitIxd b d) := fun _ => by
  rcases bitNumber_cases b with rfl | rfl | rfl | rfl | rfl | rfl | rfl | rfl <;> rfl

theorem bitIyd (b : BitVec 3) (d : Byte) : Statement (.bitIyd b d) := fun _ => by
  rcases bitNumber_cases b with rfl | rfl | rfl | rfl | rfl | rfl | rfl | rfl <;> rfl

theorem resR (b : BitVec 3) (r : Reg8) : Statement (.resR b r) := fun _ => by
  rcases bitNumber_cases b with rfl | rfl | rfl | rfl | rfl | rfl | rfl | rfl <;> cases r <;> rfl

theorem resHl (b : BitVec 3) : Statement (.resHl b) := fun _ => by
  rcases bitNumber_cases b with rfl | rfl | rfl | rfl | rfl | rfl | rfl | rfl <;> rfl

theorem resIxd (b : BitVec 3) (d : Byte) : Statement (.resIxd b d) := fun _ => by
  rcases bitNumber_cases b with rfl | rfl | rfl | rfl | rfl | rfl | rfl | rfl <;> rfl

theorem resIyd (b : BitVec 3) (d : Byte) : Statement (.resIyd b d) := fun _ => by
  rcases bitNumber_cases b with rfl | rfl | rfl | rfl | rfl | rfl | rfl | rfl <;> rfl

theorem setR (b : BitVec 3) (r : Reg8) : Statement (.setR b r) := fun _ => by
  rcases bitNumber_cases b with rfl | rfl | rfl | rfl | rfl | rfl | rfl | rfl <;> cases r <;> rfl

theorem setHl (b : BitVec 3) : Statement (.setHl b) := fun _ => by
  rcases bitNumber_cases b with rfl | rfl | rfl | rfl | rfl | rfl | rfl | rfl <;> rfl

theorem setIxd (b : BitVec 3) (d : Byte) : Statement (.setIxd b d) := fun _ => by
  rcases bitNumber_cases b with rfl | rfl | rfl | rfl | rfl | rfl | rfl | rfl <;> rfl

theorem setIyd (b : BitVec 3) (d : Byte) : Statement (.setIyd b d) := fun _ => by
  rcases bitNumber_cases b with rfl | rfl | rfl | rfl | rfl | rfl | rfl | rfl <;> rfl

theorem exDeHl : Statement .exDeHl := fun _ => rfl

theorem exx : Statement .exx := fun _ => rfl

theorem exAfAf : Statement .exAfAf := fun _ => rfl

theorem exSpHl : Statement .exSpHl := fun _ => rfl

theorem exSpIx : Statement .exSpIx := fun _ => rfl

theorem exSpIy : Statement .exSpIy := fun _ => rfl

theorem ldi : Statement .ldi := fun _ => rfl

theorem ldd : Statement .ldd := fun _ => rfl

theorem ldir : Statement .ldir := fun _ => rfl

theorem lddr : Statement .lddr := fun _ => rfl

theorem cpi : Statement .cpi := fun _ => rfl

theorem cpd : Statement .cpd := fun _ => rfl

theorem cpir : Statement .cpir := fun _ => rfl

theorem cpdr : Statement .cpdr := fun _ => rfl

theorem ldRR (r : Reg8) (r' : Reg8) : Statement (.ldRR r r') := fun _ => by
  cases r <;> cases r' <;> rfl

theorem ldRN (r : Reg8) (n : Byte) : Statement (.ldRN r n) := fun _ => by
  cases r <;> rfl

theorem ldRHl (r : Reg8) : Statement (.ldRHl r) := fun _ => by
  cases r <;> rfl

theorem ldRIxd (r : Reg8) (d : Byte) : Statement (.ldRIxd r d) := fun _ => by
  cases r <;> rfl

theorem ldRIyd (r : Reg8) (d : Byte) : Statement (.ldRIyd r d) := fun _ => by
  cases r <;> rfl

theorem ldHlR (r : Reg8) : Statement (.ldHlR r) := fun _ => by
  cases r <;> rfl

theorem ldIxdR (r : Reg8) (d : Byte) : Statement (.ldIxdR r d) := fun _ => by
  cases r <;> rfl

theorem ldIydR (r : Reg8) (d : Byte) : Statement (.ldIydR r d) := fun _ => by
  cases r <;> rfl

theorem ldHlN (n : Byte) : Statement (.ldHlN n) := fun _ => rfl

theorem ldIxdN (d : Byte) (n : Byte) : Statement (.ldIxdN d n) := fun _ => rfl

theorem ldIydN (d : Byte) (n : Byte) : Statement (.ldIydN d n) := fun _ => rfl

theorem ldABc : Statement .ldABc := fun _ => rfl

theorem ldADe : Statement .ldADe := fun _ => rfl

theorem ldAMem (nn : Word) : Statement (.ldAMem nn) := fun _ => rfl

theorem ldBcA : Statement .ldBcA := fun _ => rfl

theorem ldDeA : Statement .ldDeA := fun _ => rfl

theorem ldMemA (nn : Word) : Statement (.ldMemA nn) := fun _ => rfl

theorem ldAI : Statement .ldAI := fun _ => rfl

theorem ldAR : Statement .ldAR := fun _ => rfl

theorem ldIA : Statement .ldIA := fun _ => rfl

theorem ldRA : Statement .ldRA := fun _ => rfl

theorem ldDdNn (dd : Pair) (nn : Word) : Statement (.ldDdNn dd nn) := fun _ => by
  cases dd <;> rfl

theorem ldIxNn (nn : Word) : Statement (.ldIxNn nn) := fun _ => rfl

theorem ldIyNn (nn : Word) : Statement (.ldIyNn nn) := fun _ => rfl

theorem ldHlMem (nn : Word) : Statement (.ldHlMem nn) := fun _ => rfl

theorem ldDdMem (dd : Pair) (nn : Word) : Statement (.ldDdMem dd nn) := fun _ => by
  cases dd <;> rfl

theorem ldIxMem (nn : Word) : Statement (.ldIxMem nn) := fun _ => rfl

theorem ldIyMem (nn : Word) : Statement (.ldIyMem nn) := fun _ => rfl

theorem ldMemHl (nn : Word) : Statement (.ldMemHl nn) := fun _ => rfl

theorem ldMemDd (dd : Pair) (nn : Word) : Statement (.ldMemDd dd nn) := fun _ => by
  cases dd <;> rfl

theorem ldMemIx (nn : Word) : Statement (.ldMemIx nn) := fun _ => rfl

theorem ldMemIy (nn : Word) : Statement (.ldMemIy nn) := fun _ => rfl

theorem ldSpHl : Statement .ldSpHl := fun _ => rfl

theorem ldSpIx : Statement .ldSpIx := fun _ => rfl

theorem ldSpIy : Statement .ldSpIy := fun _ => rfl

theorem pushQq (qq : PairQ) : Statement (.pushQq qq) := fun _ => by
  cases qq <;> rfl

theorem pushIx : Statement .pushIx := fun _ => rfl

theorem pushIy : Statement .pushIy := fun _ => rfl

theorem popQq (qq : PairQ) : Statement (.popQq qq) := fun h => by
  cases qq <;> (first | rfl | cases h)

theorem popAf : Statement .popAf := fun _ => rfl

theorem popIx : Statement .popIx := fun _ => rfl

theorem popIy : Statement .popIy := fun _ => rfl

theorem jpNn (nn : Word) : Statement (.jpNn nn) := fun _ => rfl

theorem jpCcNn (cc : Cond) (nn : Word) : Statement (.jpCcNn cc nn) := fun _ => by
  cases cc <;> rfl

theorem jrE (e : Byte) : Statement (.jrE e) := fun _ => rfl

theorem jrJE (j : JrCond) (e : Byte) : Statement (.jrJE j e) := fun _ => by
  cases j <;> rfl

theorem djnzE (e : Byte) : Statement (.djnzE e) := fun _ => rfl

theorem jpHl : Statement .jpHl := fun _ => rfl

theorem jpIx : Statement .jpIx := fun _ => rfl

theorem jpIy : Statement .jpIy := fun _ => rfl

theorem callNn (nn : Word) : Statement (.callNn nn) := fun _ => rfl

theorem callCcNn (cc : Cond) (nn : Word) : Statement (.callCcNn cc nn) := fun _ => by
  cases cc <;> rfl

theorem ret : Statement .ret := fun _ => rfl

theorem retCc (cc : Cond) : Statement (.retCc cc) := fun _ => by
  cases cc <;> rfl

theorem reti : Statement .reti := fun _ => rfl

theorem retn : Statement .retn := fun _ => rfl

theorem rstT (t : BitVec 3) : Statement (.rstT t) := fun _ => by
  rcases bitNumber_cases t with rfl | rfl | rfl | rfl | rfl | rfl | rfl | rfl <;> rfl

theorem nop : Statement .nop := fun _ => rfl

theorem halt : Statement .halt := fun _ => rfl

theorem di : Statement .di := fun _ => rfl

theorem ei : Statement .ei := fun _ => rfl

theorem im0 : Statement .im0 := fun _ => rfl

theorem im1 : Statement .im1 := fun _ => rfl

theorem im2 : Statement .im2 := fun _ => rfl

theorem inAN (n : Byte) : Statement (.inAN n) := fun _ => rfl

theorem outNA (n : Byte) : Statement (.outNA n) := fun _ => rfl

theorem inRC (r : Reg8) : Statement (.inRC r) := fun _ => by
  cases r <;> rfl

theorem outCR (r : Reg8) : Statement (.outCR r) := fun _ => by
  cases r <;> rfl

theorem ini : Statement .ini := fun _ => rfl

theorem ind : Statement .ind := fun _ => rfl

theorem inir : Statement .inir := fun _ => rfl

theorem indr : Statement .indr := fun _ => rfl

theorem outi : Statement .outi := fun _ => rfl

theorem outd : Statement .outd := fun _ => rfl

theorem otir : Statement .otir := fun _ => rfl

theorem otdr : Statement .otdr := fun _ => rfl

end Sys2Proof.Laws.TableRow
end

