-- ==== Sys2Proof/Tests/Slice0.lean ====
section
/-! SUPPORT. Tests: the well-formedness smoke test, a word of every instruction form written out from the encoding
the spec gives it, one-step tests from the vectors of 95_test_vectors.md, and for every statement with hypotheses a
state and operands that meet them. -/

namespace Sys2Proof.Tests

open Sys2Proof.Machine

/-! ### Helpers -/

/-- The setters that load bytes at an address, modulo the capacity. -/
def load (size : Nat) (a : Nat) : List Byte → List Setting
  | [] => []
  | v :: rest => .byte (BitVec.ofNat 16 (a % size)) v :: load size (a + 1) rest

/-- A core built with `settings` and the bytes of its next instructions at PC. -/
def core (size : Nat) (pc : Nat) (settings : List Setting) (code : List Byte) : State :=
  build size (.pc (BitVec.ofNat 16 pc) :: settings ++ load size pc code)

/-- The same with the input lines of the coming steps. -/
def driven (s : State) (inputs : List Inputs) : State := { s with inputs := inputs }

/-- The state an outcome answers. -/
def nextOf (o : Outcome) : State :=
  match o with
  | .next t => t
  | _ => State.reset

def isNext (o : Outcome) : Bool :=
  match o with
  | .next _ => true
  | _ => false

theorem eq_next {o : Outcome} (h : isNext o = true) : o = .next (nextOf o) := by
  cases o with
  | next t => rfl
  | fault r => cases h
  | refused r => cases h

/-- The next step answers a state with `p`. -/
def stepGives (s : State) (p : State → Bool) : Bool := isNext (step s) && p (nextOf (step s))

/-- The step raised IllegalInstruction with these bytes. -/
def refusedBytes (t : State) (bytes : List Byte) : Bool :=
  match t.run with
  | .faulted (.illegalInstruction _ read) => read == bytes
  | _ => false

/-- The step raised MemoryFault with this address and kind. -/
def memFaultAt (t : State) (a : Word) (k : AccessKind) : Bool :=
  match t.run with
  | .faulted (.memoryFault addr kind _) => addr == a && kind == k
  | _ => false

/-- The step raised Unimplemented with this reason. -/
def unimplementedFor (t : State) (why : UnimplementedReason) : Bool :=
  match t.run with
  | .faulted (.unimplemented reason _ _) => reason == why
  | _ => false

/-! ### WellFormed -/

/-- The one ill-formed term: AF has no `POP qq` row (45_load.md R397). -/
theorem test_wellFormed_refuses_pop_qq_af : (Instr.popQq .af).wf = false := by decide

theorem test_wellFormed_accepts : (Instr.popQq .hl).wf = true ∧ Instr.popAf.wf = true ∧ (Instr.pushQq .af).wf = true := by
  decide

/-! ### Decoding

Each word is the row's `encoding` of spec/opcode_table.json with the operand fields filled in by hand codes of
10_state.md R35 to R37 and 30_encoding.md R124, R125; underscores part the fields. -/

theorem test_decode_alu8_1 :
    decode [0b10000_000#8] = .instr (.addAR .b) ∧
    decode [0xC6#8, 0xFE#8] = .instr (.addAN 0xFE#8) ∧
    decode [0x86#8] = .instr .addAHl ∧
    decode [0xDD#8, 0x86#8, 0x12#8] = .instr (.addAIxd 0x12#8) ∧
    decode [0xFD#8, 0x86#8, 0xA5#8] = .instr (.addAIyd 0xA5#8) ∧
    decode [0b10001_111#8] = .instr (.adcAR .a) ∧
    decode [0xCE#8, 0x7F#8] = .instr (.adcAN 0x7F#8) ∧
    decode [0x8E#8] = .instr .adcAHl ∧
    decode [0xDD#8, 0x8E#8, 0xFE#8] = .instr (.adcAIxd 0xFE#8) ∧
    decode [0xFD#8, 0x8E#8, 0x12#8] = .instr (.adcAIyd 0x12#8) ∧
    decode [0b10010_101#8] = .instr (.subR .l) ∧
    decode [0xD6#8, 0x80#8] = .instr (.subN 0x80#8) ∧
    decode [0x96#8] = .instr .subHl ∧
    decode [0xDD#8, 0x96#8, 0x7F#8] = .instr (.subIxd 0x7F#8) ∧
    decode [0xFD#8, 0x96#8, 0xFE#8] = .instr (.subIyd 0xFE#8) ∧
    decode [0b10011_100#8] = .instr (.sbcAR .h) ∧
    decode [0xDE#8, 0xA5#8] = .instr (.sbcAN 0xA5#8) ∧
    decode [0x9E#8] = .instr .sbcAHl ∧
    decode [0xDD#8, 0x9E#8, 0x80#8] = .instr (.sbcAIxd 0x80#8) ∧
    decode [0xFD#8, 0x9E#8, 0x7F#8] = .instr (.sbcAIyd 0x7F#8) ∧
    decode [0b10100_011#8] = .instr (.andR .e) ∧
    decode [0xE6#8, 0x12#8] = .instr (.andN 0x12#8) ∧
    decode [0xA6#8] = .instr .andHl ∧
    decode [0xDD#8, 0xA6#8, 0xA5#8] = .instr (.andIxd 0xA5#8) ∧
    decode [0xFD#8, 0xA6#8, 0x80#8] = .instr (.andIyd 0x80#8) ∧
    decode [0b10101_010#8] = .instr (.xorR .d) ∧
    decode [0xEE#8, 0xFE#8] = .instr (.xorN 0xFE#8) ∧
    decode [0xAE#8] = .instr .xorHl ∧
    decode [0xDD#8, 0xAE#8, 0x12#8] = .instr (.xorIxd 0x12#8) ∧
    decode [0xFD#8, 0xAE#8, 0xA5#8] = .instr (.xorIyd 0xA5#8) := by
  decide

theorem test_decode_alu8_2 :
    decode [0b10110_001#8] = .instr (.orR .c) ∧
    decode [0xF6#8, 0x7F#8] = .instr (.orN 0x7F#8) ∧
    decode [0xB6#8] = .instr .orHl ∧
    decode [0xDD#8, 0xB6#8, 0xFE#8] = .instr (.orIxd 0xFE#8) ∧
    decode [0xFD#8, 0xB6#8, 0x12#8] = .instr (.orIyd 0x12#8) ∧
    decode [0b10111_000#8] = .instr (.cpR .b) ∧
    decode [0xFE#8, 0x80#8] = .instr (.cpN 0x80#8) ∧
    decode [0xBE#8] = .instr .cpHl ∧
    decode [0xDD#8, 0xBE#8, 0x7F#8] = .instr (.cpIxd 0x7F#8) ∧
    decode [0xFD#8, 0xBE#8, 0xFE#8] = .instr (.cpIyd 0xFE#8) ∧
    decode [0b00_111_100#8] = .instr (.incR .a) ∧
    decode [0x34#8] = .instr .incHl ∧
    decode [0xDD#8, 0x34#8, 0xA5#8] = .instr (.incIxd 0xA5#8) ∧
    decode [0xFD#8, 0x34#8, 0x80#8] = .instr (.incIyd 0x80#8) ∧
    decode [0b00_000_101#8] = .instr (.decR .b) ∧
    decode [0x35#8] = .instr .decHl ∧
    decode [0xDD#8, 0x35#8, 0xFE#8] = .instr (.decIxd 0xFE#8) ∧
    decode [0xFD#8, 0x35#8, 0x12#8] = .instr (.decIyd 0x12#8) ∧
    decode [0x27#8] = .instr .daa ∧
    decode [0x2F#8] = .instr .cpl ∧
    decode [0x3F#8] = .instr .ccf ∧
    decode [0x37#8] = .instr .scf ∧
    decode [0xED#8, 0x44#8] = .instr .neg := by
  decide

theorem test_decode_alu16 :
    decode [0b00_01_1001#8] = .instr (.addHlSs .de) ∧
    decode [0xED#8, 0b01_10_1010#8] = .instr (.adcHlSs .hl) ∧
    decode [0xED#8, 0b01_11_0010#8] = .instr (.sbcHlSs .sp) ∧
    decode [0xDD#8, 0b00_00_1001#8] = .instr (.addIxPp .bc) ∧
    decode [0xFD#8, 0b00_01_1001#8] = .instr (.addIyRr .de) ∧
    decode [0b00_10_0011#8] = .instr (.incSs .hl) ∧
    decode [0b00_11_1011#8] = .instr (.decSs .sp) ∧
    decode [0xDD#8, 0x23#8] = .instr .incIx ∧
    decode [0xDD#8, 0x2B#8] = .instr .decIx ∧
    decode [0xFD#8, 0x23#8] = .instr .incIy ∧
    decode [0xFD#8, 0x2B#8] = .instr .decIy := by
  decide

theorem test_decode_rotate_shift_1 :
    decode [0x07#8] = .instr .rlca ∧
    decode [0x0F#8] = .instr .rrca ∧
    decode [0x17#8] = .instr .rla ∧
    decode [0x1F#8] = .instr .rra ∧
    decode [0xCB#8, 0b00000_001#8] = .instr (.rlcR .c) ∧
    decode [0xCB#8, 0x06#8] = .instr .rlcHl ∧
    decode [0xDD#8, 0xCB#8, 0xFE#8, 0x06#8] = .instr (.rlcIxd 0xFE#8) ∧
    decode [0xFD#8, 0xCB#8, 0x12#8, 0x06#8] = .instr (.rlcIyd 0x12#8) ∧
    decode [0xCB#8, 0b00001_010#8] = .instr (.rrcR .d) ∧
    decode [0xCB#8, 0x0E#8] = .instr .rrcHl ∧
    decode [0xDD#8, 0xCB#8, 0x80#8, 0x0E#8] = .instr (.rrcIxd 0x80#8) ∧
    decode [0xFD#8, 0xCB#8, 0x7F#8, 0x0E#8] = .instr (.rrcIyd 0x7F#8) ∧
    decode [0xCB#8, 0b00010_011#8] = .instr (.rlR .e) ∧
    decode [0xCB#8, 0x16#8] = .instr .rlHl ∧
    decode [0xDD#8, 0xCB#8, 0x12#8, 0x16#8] = .instr (.rlIxd 0x12#8) ∧
    decode [0xFD#8, 0xCB#8, 0xA5#8, 0x16#8] = .instr (.rlIyd 0xA5#8) ∧
    decode [0xCB#8, 0b00011_100#8] = .instr (.rrR .h) ∧
    decode [0xCB#8, 0x1E#8] = .instr .rrHl ∧
    decode [0xDD#8, 0xCB#8, 0x7F#8, 0x1E#8] = .instr (.rrIxd 0x7F#8) ∧
    decode [0xFD#8, 0xCB#8, 0xFE#8, 0x1E#8] = .instr (.rrIyd 0xFE#8) ∧
    decode [0xCB#8, 0b00100_101#8] = .instr (.slaR .l) ∧
    decode [0xCB#8, 0x26#8] = .instr .slaHl ∧
    decode [0xDD#8, 0xCB#8, 0xA5#8, 0x26#8] = .instr (.slaIxd 0xA5#8) ∧
    decode [0xFD#8, 0xCB#8, 0x80#8, 0x26#8] = .instr (.slaIyd 0x80#8) ∧
    decode [0xCB#8, 0b00101_111#8] = .instr (.sraR .a) ∧
    decode [0xCB#8, 0x2E#8] = .instr .sraHl ∧
    decode [0xDD#8, 0xCB#8, 0xFE#8, 0x2E#8] = .instr (.sraIxd 0xFE#8) ∧
    decode [0xFD#8, 0xCB#8, 0x12#8, 0x2E#8] = .instr (.sraIyd 0x12#8) ∧
    decode [0xCB#8, 0b00111_000#8] = .instr (.srlR .b) ∧
    decode [0xCB#8, 0x3E#8] = .instr .srlHl := by
  decide

theorem test_decode_rotate_shift_2 :
    decode [0xDD#8, 0xCB#8, 0x80#8, 0x3E#8] = .instr (.srlIxd 0x80#8) ∧
    decode [0xFD#8, 0xCB#8, 0x7F#8, 0x3E#8] = .instr (.srlIyd 0x7F#8) ∧
    decode [0xED#8, 0x6F#8] = .instr .rld ∧
    decode [0xED#8, 0x67#8] = .instr .rrd := by
  decide

theorem test_decode_bit :
    decode [0xCB#8, 0b01_110_111#8] = .instr (.bitR 6#3 .a) ∧
    decode [0xCB#8, 0b01_100_110#8] = .instr (.bitHl 4#3) ∧
    decode [0xDD#8, 0xCB#8, 0x7F#8, 0b01_111_110#8] = .instr (.bitIxd 7#3 0x7F#8) ∧
    decode [0xFD#8, 0xCB#8, 0x12#8, 0b01_101_110#8] = .instr (.bitIyd 5#3 0x12#8) ∧
    decode [0xCB#8, 0b10_011_111#8] = .instr (.resR 3#3 .a) ∧
    decode [0xCB#8, 0b10_001_110#8] = .instr (.resHl 1#3) ∧
    decode [0xDD#8, 0xCB#8, 0x12#8, 0b10_100_110#8] = .instr (.resIxd 4#3 0x12#8) ∧
    decode [0xFD#8, 0xCB#8, 0x80#8, 0b10_010_110#8] = .instr (.resIyd 2#3 0x80#8) ∧
    decode [0xCB#8, 0b11_000_111#8] = .instr (.setR 0#3 .a) ∧
    decode [0xCB#8, 0b11_110_110#8] = .instr (.setHl 6#3) ∧
    decode [0xDD#8, 0xCB#8, 0x80#8, 0b11_001_110#8] = .instr (.setIxd 1#3 0x80#8) ∧
    decode [0xFD#8, 0xCB#8, 0xFE#8, 0b11_111_110#8] = .instr (.setIyd 7#3 0xFE#8) := by
  decide

theorem test_decode_exchange_block :
    decode [0xEB#8] = .instr .exDeHl ∧
    decode [0xD9#8] = .instr .exx ∧
    decode [0x08#8] = .instr .exAfAf ∧
    decode [0xE3#8] = .instr .exSpHl ∧
    decode [0xDD#8, 0xE3#8] = .instr .exSpIx ∧
    decode [0xFD#8, 0xE3#8] = .instr .exSpIy ∧
    decode [0xED#8, 0xA0#8] = .instr .ldi ∧
    decode [0xED#8, 0xA8#8] = .instr .ldd ∧
    decode [0xED#8, 0xB0#8] = .instr .ldir ∧
    decode [0xED#8, 0xB8#8] = .instr .lddr ∧
    decode [0xED#8, 0xA1#8] = .instr .cpi ∧
    decode [0xED#8, 0xA9#8] = .instr .cpd ∧
    decode [0xED#8, 0xB1#8] = .instr .cpir ∧
    decode [0xED#8, 0xB9#8] = .instr .cpdr := by
  decide

theorem test_decode_load_1 :
    decode [0b01_001_111#8] = .instr (.ldRR .c .a) ∧
    decode [0b00_100_110#8, 0x7F#8] = .instr (.ldRN .h 0x7F#8) ∧
    decode [0b01_000_110#8] = .instr (.ldRHl .b) ∧
    decode [0xDD#8, 0b01_101_110#8, 0xA5#8] = .instr (.ldRIxd .l 0xA5#8) ∧
    decode [0xFD#8, 0b01_001_110#8, 0x7F#8] = .instr (.ldRIyd .c 0x7F#8) ∧
    decode [0b01110_100#8] = .instr (.ldHlR .h) ∧
    decode [0xDD#8, 0b01110_010#8, 0xA5#8] = .instr (.ldIxdR .d 0xA5#8) ∧
    decode [0xFD#8, 0b01110_101#8, 0x7F#8] = .instr (.ldIydR .l 0x7F#8) ∧
    decode [0x36#8, 0xFE#8] = .instr (.ldHlN 0xFE#8) ∧
    decode [0xDD#8, 0x36#8, 0x12#8, 0xA5#8] = .instr (.ldIxdN 0x12#8 0xA5#8) ∧
    decode [0xFD#8, 0x36#8, 0x80#8, 0x7F#8] = .instr (.ldIydN 0x80#8 0x7F#8) ∧
    decode [0x0A#8] = .instr .ldABc ∧
    decode [0x1A#8] = .instr .ldADe ∧
    decode [0x3A#8, 0x34#8, 0x12#8] = .instr (.ldAMem 0x1234#16) ∧
    decode [0x02#8] = .instr .ldBcA ∧
    decode [0x12#8] = .instr .ldDeA ∧
    decode [0x32#8, 0x34#8, 0x12#8] = .instr (.ldMemA 0x1234#16) ∧
    decode [0xED#8, 0x57#8] = .instr .ldAI ∧
    decode [0xED#8, 0x5F#8] = .instr .ldAR ∧
    decode [0xED#8, 0x47#8] = .instr .ldIA ∧
    decode [0xED#8, 0x4F#8] = .instr .ldRA ∧
    decode [0b00_11_0001#8, 0x34#8, 0x12#8] = .instr (.ldDdNn .sp 0x1234#16) ∧
    decode [0xDD#8, 0x21#8, 0x34#8, 0x12#8] = .instr (.ldIxNn 0x1234#16) ∧
    decode [0xFD#8, 0x21#8, 0x34#8, 0x12#8] = .instr (.ldIyNn 0x1234#16) ∧
    decode [0x2A#8, 0x34#8, 0x12#8] = .instr (.ldHlMem 0x1234#16) ∧
    decode [0xED#8, 0b01_00_1011#8, 0x34#8, 0x12#8] = .instr (.ldDdMem .bc 0x1234#16) ∧
    decode [0xDD#8, 0x2A#8, 0x34#8, 0x12#8] = .instr (.ldIxMem 0x1234#16) ∧
    decode [0xFD#8, 0x2A#8, 0x34#8, 0x12#8] = .instr (.ldIyMem 0x1234#16) ∧
    decode [0x22#8, 0x34#8, 0x12#8] = .instr (.ldMemHl 0x1234#16) ∧
    decode [0xED#8, 0b01_01_0011#8, 0x34#8, 0x12#8] = .instr (.ldMemDd .de 0x1234#16) := by
  decide

theorem test_decode_load_2 :
    decode [0xDD#8, 0x22#8, 0x34#8, 0x12#8] = .instr (.ldMemIx 0x1234#16) ∧
    decode [0xFD#8, 0x22#8, 0x34#8, 0x12#8] = .instr (.ldMemIy 0x1234#16) ∧
    decode [0xF9#8] = .instr .ldSpHl ∧
    decode [0xDD#8, 0xF9#8] = .instr .ldSpIx ∧
    decode [0xFD#8, 0xF9#8] = .instr .ldSpIy ∧
    decode [0b11_01_0101#8] = .instr (.pushQq .de) ∧
    decode [0xDD#8, 0xE5#8] = .instr .pushIx ∧
    decode [0xFD#8, 0xE5#8] = .instr .pushIy ∧
    decode [0b11_01_0001#8] = .instr (.popQq .de) ∧
    decode [0xF1#8] = .instr .popAf ∧
    decode [0xDD#8, 0xE1#8] = .instr .popIx ∧
    decode [0xFD#8, 0xE1#8] = .instr .popIy := by
  decide

theorem test_decode_jump_call_return :
    decode [0xC3#8, 0x34#8, 0x12#8] = .instr (.jpNn 0x1234#16) ∧
    decode [0b11_000_010#8, 0x34#8, 0x12#8] = .instr (.jpCcNn .nz 0x1234#16) ∧
    decode [0x18#8, 0x12#8] = .instr (.jrE 0x12#8) ∧
    decode [0b001_11_000#8, 0x80#8] = .instr (.jrJE .c 0x80#8) ∧
    decode [0x10#8, 0x7F#8] = .instr (.djnzE 0x7F#8) ∧
    decode [0xE9#8] = .instr .jpHl ∧
    decode [0xDD#8, 0xE9#8] = .instr .jpIx ∧
    decode [0xFD#8, 0xE9#8] = .instr .jpIy ∧
    decode [0xCD#8, 0x34#8, 0x12#8] = .instr (.callNn 0x1234#16) ∧
    decode [0b11_011_100#8, 0x34#8, 0x12#8] = .instr (.callCcNn .c 0x1234#16) ∧
    decode [0xC9#8] = .instr .ret ∧
    decode [0b11_101_000#8] = .instr (.retCc .pe) ∧
    decode [0xED#8, 0x4D#8] = .instr .reti ∧
    decode [0xED#8, 0x45#8] = .instr .retn ∧
    decode [0b11_101_111#8] = .instr (.rstT 5#3) := by
  decide

theorem test_decode_cpu_control :
    decode [0x00#8] = .instr .nop ∧
    decode [0x76#8] = .instr .halt ∧
    decode [0xF3#8] = .instr .di ∧
    decode [0xFB#8] = .instr .ei ∧
    decode [0xED#8, 0x46#8] = .instr .im0 ∧
    decode [0xED#8, 0x56#8] = .instr .im1 ∧
    decode [0xED#8, 0x5E#8] = .instr .im2 := by
  decide

theorem test_decode_io :
    decode [0xDB#8, 0xFE#8] = .instr (.inAN 0xFE#8) ∧
    decode [0xD3#8, 0x12#8] = .instr (.outNA 0x12#8) ∧
    decode [0xED#8, 0b01_100_000#8] = .instr (.inRC .h) ∧
    decode [0xED#8, 0b01_010_001#8] = .instr (.outCR .d) ∧
    decode [0xED#8, 0xA2#8] = .instr .ini ∧
    decode [0xED#8, 0xAA#8] = .instr .ind ∧
    decode [0xED#8, 0xB2#8] = .instr .inir ∧
    decode [0xED#8, 0xBA#8] = .instr .indr ∧
    decode [0xED#8, 0xA3#8] = .instr .outi ∧
    decode [0xED#8, 0xAB#8] = .instr .outd ∧
    decode [0xED#8, 0xB3#8] = .instr .otir ∧
    decode [0xED#8, 0xBB#8] = .instr .otdr := by
  decide

theorem test_decode_illegal :
    decode [0xCB#8, 0b00_110_000#8] = .illegal [0xCB#8, 0x30#8] ∧
    decode [0xED#8, 0x00#8, 0x11#8] = .illegal [0xED#8, 0x00#8] ∧
    decode [0xDD#8, 0xDD#8, 0x21#8] = .illegal [0xDD#8, 0xDD#8] ∧
    decode [0xFD#8, 0xCB#8, 0x05#8, 0x07#8] = .illegal [0xFD#8, 0xCB#8, 0x05#8, 0x07#8] := by
  decide

theorem test_decodeTableWord :
    decodeTableWord 8 0x80 = some (.addAR .b) ∧ decodeTableWord 16 0xEDB0 = some .ldir ∧
    decodeTableWord 16 0xB0ED = some .ldir ∧ decodeTableWord 24 0xFDCB06 = some (.rlcIyd 0x00#8) ∧
    decodeTableWord 8 0xC3 = some (.jpNn 0x0000#16) := by
  decide

theorem test_withFetchWord_runs_the_instruction :
    stepGives (State.reset.withFetchWord 16 0xED4D) (fun t => t.outcome == some (.executed .reti)) = true ∧
    stepGives (State.reset.withFetchWord 24 0xDDCB7E) (fun t => t.outcome == some (.executed (.bitIxd 7#3 0#8))) =
      true := by
  decide

/-! ### One step: the vectors of 95_test_vectors.md

The id of the vector stands in each name; the expected values are the table's. -/

theorem test_V20_1_memoryfault :
    stepGives (core 0x4000 0 [] [0x3A, 0x00, 0x80]) (fun t =>
      t.pc == 0x0000#16 && t.a == 0x00#8 && !t.alive && memFaultAt t 0x8000#16 .read &&
      t.outcome == some .memoryFault) = true := by
  decide

theorem test_V20_2_memoryfault :
    stepGives (core 0x4000 0 [.sp 0x00, .reg8 .b 0x12, .reg8 .c 0x34] [0xC5]) (fun t =>
      t.sp == 0x0000#16 && !t.alive && memFaultAt t 0xFFFF#16 .write && t.outcome == some .memoryFault) = true := by
  decide

theorem test_V20_3_memoryfault :
    stepGives (core 0x4000 0 [] [0x2A, 0xFF, 0x3F]) (fun t =>
      t.hl == 0x0000#16 && !t.alive && memFaultAt t 0x4000#16 .read && t.outcome == some .memoryFault) = true := by
  decide

theorem test_V20_4_jp_8000 :
    stepGives (core 0x4000 0x3FFF [] [0xC3, 0x00, 0x80]) (fun t =>
      t.pc == 0x8000#16 && t.run == .running && t.alive) = true := by
  decide

theorem test_V20_6_jr_5 :
    stepGives (core 0x4000 0x3FFF [] [0x18, 0x05]) (fun t =>
      t.pc == 0x0006#16 && t.alive) = true := by
  decide

theorem test_V30_1_illegalinstruction :
    stepGives (core 65536 0x0100 [] [0xED, 0x00]) (fun t =>
      t.pc == 0x0100#16 && t.r == 0x00#8 && !t.alive && refusedBytes t [0xED#8, 0x00#8] &&
      t.outcome == some .illegalInstruction) = true := by
  decide

theorem test_V30_2_illegalinstruction :
    stepGives (core 65536 0 [] [0xDD, 0xDD, 0x21]) (fun t =>
      !t.alive && refusedBytes t [0xDD#8, 0xDD#8] && t.outcome == some .illegalInstruction) = true := by
  decide

theorem test_V40_1_add_a_c :
    stepGives (core 65536 0 [.reg8 .a 0x07, .reg8 .c 0x04] [0x81]) (fun t =>
      t.a == 0x0B#8 && t.f == 0x00#8 && t.pc == 0x0001#16 && t.alive) = true := by
  decide

theorem test_V40_2_add_a_01 :
    stepGives (core 65536 0 [.reg8 .a 0x7F] [0xC6, 0x01]) (fun t =>
      t.a == 0x80#8 && t.f == 0x94#8 && t.alive) = true := by
  decide

theorem test_V40_6_adc_a_ff :
    stepGives (core 65536 0 [.reg8 .a 0x00, .f 0x01] [0xCE, 0xFF]) (fun t =>
      t.a == 0x00#8 && t.f == 0x51#8 && t.alive) = true := by
  decide

theorem test_V40_8_sub_01 :
    stepGives (core 65536 0 [.reg8 .a 0x00] [0xD6, 0x01]) (fun t =>
      t.a == 0xFF#8 && t.f == 0x93#8 && t.alive) = true := by
  decide

theorem test_V40_9_sub_b :
    stepGives (core 65536 0 [.reg8 .a 0x80, .reg8 .b 0x01] [0x90]) (fun t =>
      t.a == 0x7F#8 && t.f == 0x16#8 && t.alive) = true := by
  decide

theorem test_V40_11_sbc_a_00 :
    stepGives (core 65536 0 [.reg8 .a 0x00, .f 0x01] [0xDE, 0x00]) (fun t =>
      t.a == 0xFF#8 && t.f == 0x93#8 && t.alive) = true := by
  decide

theorem test_V40_12_sbc_a_h :
    stepGives (core 65536 0 [.reg8 .a 0x80, .reg8 .h 0x7F, .f 0x01] [0x9C]) (fun t =>
      t.a == 0x00#8 && t.f == 0x56#8 && t.alive) = true := by
  decide

theorem test_V40_13_and_0f :
    stepGives (core 65536 0 [.reg8 .a 0xF0, .f 0xC7] [0xE6, 0x0F]) (fun t =>
      t.a == 0x00#8 && t.f == 0x54#8 && t.alive) = true := by
  decide

theorem test_V40_15_xor_a :
    stepGives (core 65536 0 [.reg8 .a 0x5A, .f 0xFF] [0xAF]) (fun t =>
      t.a == 0x00#8 && t.f == 0x6C#8 && t.alive) = true := by
  decide

theorem test_V40_16_or_c :
    stepGives (core 65536 0 [.reg8 .a 0x01, .reg8 .c 0x02] [0xB1]) (fun t =>
      t.a == 0x03#8 && t.f == 0x04#8 && t.alive) = true := by
  decide

theorem test_V40_17_cp_40 :
    stepGives (core 65536 0 [.reg8 .a 0x40] [0xFE, 0x40]) (fun t =>
      t.a == 0x40#8 && t.f == 0x42#8 && t.alive) = true := by
  decide

theorem test_V40_22_inc_a :
    stepGives (core 65536 0 [.reg8 .a 0x7F, .f 0x01] [0x3C]) (fun t =>
      t.a == 0x80#8 && t.f == 0x95#8 && t.alive) = true := by
  decide

theorem test_V40_25_dec_a :
    stepGives (core 65536 0 [.reg8 .a 0x80] [0x3D]) (fun t =>
      t.a == 0x7F#8 && t.f == 0x16#8 && t.alive) = true := by
  decide

theorem test_V40_29_daa :
    stepGives (core 65536 0 [.reg8 .a 0x3C] [0x27]) (fun t =>
      t.a == 0x42#8 && t.f == 0x14#8 && t.alive) = true := by
  decide

theorem test_V40_30_daa :
    stepGives (core 65536 0 [.reg8 .a 0x9A] [0x27]) (fun t =>
      t.a == 0x00#8 && t.f == 0x55#8 && t.alive) = true := by
  decide

theorem test_V40_34_cpl :
    stepGives (core 65536 0 [.reg8 .a 0xB4] [0x2F]) (fun t =>
      t.a == 0x4B#8 && t.f == 0x12#8 && t.pc == 0x0001#16 && t.alive) = true := by
  decide

theorem test_V40_35_neg :
    stepGives (core 65536 0 [.reg8 .a 0x01] [0xED, 0x44]) (fun t =>
      t.a == 0xFF#8 && t.f == 0x93#8 && t.alive) = true := by
  decide

theorem test_V40_36_neg :
    stepGives (core 65536 0 [.reg8 .a 0x80] [0xED, 0x44]) (fun t =>
      t.a == 0x80#8 && t.f == 0x87#8 && t.alive) = true := by
  decide

theorem test_V40_38_ccf :
    stepGives (core 65536 0 [.f 0x01] [0x3F]) (fun t =>
      t.f == 0x10#8 && t.alive) = true := by
  decide

theorem test_V40_40_scf :
    stepGives (core 65536 0 [.f 0x12] [0x37]) (fun t =>
      t.f == 0x01#8 && t.alive) = true := by
  decide

theorem test_V41_1_add_hl_de :
    stepGives (core 65536 0 [.reg8 .h 0x0F, .reg8 .l 0xFF, .reg8 .d 0x00, .reg8 .e 0x01, .f 0xC4] [0x19]) (fun t =>
      t.hl == 0x1000#16 && t.f == 0xD4#8 && t.alive) = true := by
  decide

theorem test_V41_4_adc_hl_bc :
    stepGives (core 65536 0 [.reg8 .h 0x7F, .reg8 .l 0xFF, .reg8 .b 0x00, .reg8 .c 0x00, .f 0x01] [0xED,
      0x4A]) (fun t =>
      t.hl == 0x8000#16 && t.f == 0x94#8 && t.alive) = true := by
  decide

theorem test_V41_7_sbc_hl_de :
    stepGives (core 65536 0 [.reg8 .h 0x10, .reg8 .l 0x00, .reg8 .d 0x00, .reg8 .e 0x01] [0xED, 0x52]) (fun t =>
      t.hl == 0x0FFF#16 && t.f == 0x12#8 && t.alive) = true := by
  decide

theorem test_V41_11_add_ix_bc :
    stepGives (core 65536 0 [.ix 0x7FFF, .reg8 .b 0x00, .reg8 .c 0x01, .f 0x80] [0xDD, 0x09]) (fun t =>
      t.ix == 0x8000#16 && t.f == 0x90#8 && t.alive) = true := by
  decide

theorem test_V41_13_add_iy_sp :
    stepGives (core 65536 0 [.iy 0xF000, .sp 0x1000] [0xFD, 0x39]) (fun t =>
      t.iy == 0x0000#16 && t.f == 0x01#8 && t.alive) = true := by
  decide

theorem test_V41_14_inc_bc :
    stepGives (core 65536 0 [.reg8 .b 0xFF, .reg8 .c 0xFF, .f 0x00] [0x03]) (fun t =>
      t.bc == 0x0000#16 && t.f == 0x00#8 && t.alive) = true := by
  decide

theorem test_V41_16_dec_de :
    stepGives (core 65536 0 [.reg8 .d 0x00, .reg8 .e 0x00] [0x1B]) (fun t =>
      t.de == 0xFFFF#16 && t.f == 0x00#8 && t.alive) = true := by
  decide

theorem test_V41_18_inc_ix :
    stepGives (core 65536 0 [.ix 0xFFFF] [0xDD, 0x23]) (fun t =>
      t.ix == 0x0000#16 && t.pc == 0x0002#16 && t.alive) = true := by
  decide

theorem test_V41_19_dec_iy :
    stepGives (core 65536 0 [.iy 0x00] [0xFD, 0x2B]) (fun t =>
      t.iy == 0xFFFF#16 && t.alive) = true := by
  decide

theorem test_V42_1_rlca :
    stepGives (core 65536 0 [.reg8 .a 0x81, .f 0xC4] [0x07]) (fun t =>
      t.a == 0x03#8 && t.f == 0xC5#8 && t.alive) = true := by
  decide

theorem test_V42_2_rrca :
    stepGives (core 65536 0 [.reg8 .a 0x01] [0x0F]) (fun t =>
      t.a == 0x80#8 && t.f == 0x01#8 && t.alive) = true := by
  decide

theorem test_V42_3_rla :
    stepGives (core 65536 0 [.reg8 .a 0x80] [0x17]) (fun t =>
      t.a == 0x00#8 && t.f == 0x01#8 && t.alive) = true := by
  decide

theorem test_V42_5_rra :
    stepGives (core 65536 0 [.reg8 .a 0x01, .f 0x00] [0x1F]) (fun t =>
      t.a == 0x00#8 && t.f == 0x01#8 && t.alive) = true := by
  decide

theorem test_V42_7_rlc_b :
    stepGives (core 65536 0 [.reg8 .b 0x80] [0xCB, 0x00]) (fun t =>
      t.b == 0x01#8 && t.f == 0x01#8 && t.alive) = true := by
  decide

theorem test_V42_9_rrc_c :
    stepGives (core 65536 0 [.reg8 .c 0x01] [0xCB, 0x09]) (fun t =>
      t.c == 0x80#8 && t.f == 0x81#8 && t.alive) = true := by
  decide

theorem test_V42_10_rl_d :
    stepGives (core 65536 0 [.reg8 .d 0x80] [0xCB, 0x12]) (fun t =>
      t.d == 0x00#8 && t.f == 0x45#8 && t.alive) = true := by
  decide

theorem test_V42_11_rr_e :
    stepGives (core 65536 0 [.reg8 .e 0x01, .f 0x01] [0xCB, 0x1B]) (fun t =>
      t.e == 0x80#8 && t.f == 0x81#8 && t.alive) = true := by
  decide

theorem test_V42_12_sla_a :
    stepGives (core 65536 0 [.reg8 .a 0xC1] [0xCB, 0x27]) (fun t =>
      t.a == 0x82#8 && t.f == 0x85#8 && t.alive) = true := by
  decide

theorem test_V42_13_sra_h :
    stepGives (core 65536 0 [.reg8 .h 0x81] [0xCB, 0x2C]) (fun t =>
      t.h == 0xC0#8 && t.f == 0x85#8 && t.alive) = true := by
  decide

theorem test_V42_14_srl_l :
    stepGives (core 65536 0 [.reg8 .l 0x81] [0xCB, 0x3D]) (fun t =>
      t.l == 0x40#8 && t.f == 0x01#8 && t.alive) = true := by
  decide

theorem test_V42_18_illegalinstruction :
    stepGives (core 65536 0 [.reg8 .b 0x01] [0xCB, 0x30]) (fun t =>
      !t.alive && refusedBytes t [0xCB#8, 0x30#8] && t.outcome == some .illegalInstruction) = true := by
  decide

theorem test_V42_19_rld :
    stepGives (core 65536 0 [.reg8 .a 0x7A, .reg8 .h 0x50, .reg8 .l 0x00, .byte 0x5000 0x31, .f 0x01] [0xED,
      0x6F]) (fun t =>
      t.a == 0x73#8 && t.mem.get 0x5000 == 0x1A#8 && t.f == 0x01#8 && t.alive) = true := by
  decide

theorem test_V42_20_rrd :
    stepGives (core 65536 0 [.reg8 .a 0x84, .reg8 .h 0x50, .reg8 .l 0x00, .byte 0x5000 0x20] [0xED, 0x67]) (fun t =>
      t.a == 0x80#8 && t.mem.get 0x5000 == 0x42#8 && t.f == 0x80#8 && t.alive) = true := by
  decide

theorem test_V43_1_bit_7_e :
    stepGives (core 65536 0 [.reg8 .e 0x80] [0xCB, 0x7B]) (fun t =>
      t.f == 0x10#8 && t.pc == 0x0002#16 && t.alive) = true := by
  decide

theorem test_V43_4_bit_0_hl :
    stepGives (core 65536 0 [.reg8 .h 0x40, .reg8 .l 0x00, .byte 0x4000 0x00] [0xCB, 0x46]) (fun t =>
      t.f == 0x54#8 && t.alive) = true := by
  decide

theorem test_V43_5_bit_7_ix_16 :
    stepGives (core 65536 0 [.ix 0x4000, .byte 0x4010 0x80] [0xDD, 0xCB, 0x10, 0x7E]) (fun t =>
      t.f == 0x10#8 && t.pc == 0x0004#16 && t.r == 0x02#8 && t.alive) = true := by
  decide

theorem test_V43_7_set_7_a :
    stepGives (core 65536 0 [.reg8 .a 0x00, .f 0x42] [0xCB, 0xFF]) (fun t =>
      t.a == 0x80#8 && t.f == 0x42#8 && t.alive) = true := by
  decide

theorem test_V43_8_set_0_hl :
    stepGives (core 65536 0 [.reg8 .h 0x40, .reg8 .l 0x00, .byte 0x4000 0x00] [0xCB, 0xC6]) (fun t =>
      t.mem.get 0x4000 == 0x01#8 && t.alive) = true := by
  decide

theorem test_V43_9_set_3_ix_1 :
    stepGives (core 65536 0 [.ix 0x4000, .byte 0x4001 0x00] [0xDD, 0xCB, 0x01, 0xDE]) (fun t =>
      t.mem.get 0x4001 == 0x08#8 && t.alive) = true := by
  decide

theorem test_V43_10_res_0_b :
    stepGives (core 65536 0 [.reg8 .b 0xFF, .f 0xFF] [0xCB, 0x80]) (fun t =>
      t.b == 0xFE#8 && t.f == 0xFF#8 && t.alive) = true := by
  decide

theorem test_V43_11_res_7_hl :
    stepGives (core 65536 0 [.reg8 .h 0x40, .reg8 .l 0x00, .byte 0x4000 0xFF] [0xCB, 0xBE]) (fun t =>
      t.mem.get 0x4000 == 0x7F#8 && t.alive) = true := by
  decide

theorem test_V43_12_res_0_iy_0 :
    stepGives (core 65536 0 [.iy 0x4000, .byte 0x4000 0x01] [0xFD, 0xCB, 0x00, 0x86]) (fun t =>
      t.mem.get 0x4000 == 0x00#8 && t.alive) = true := by
  decide

theorem test_V43_13_illegalinstruction :
    stepGives (core 65536 0 [.ix 0x4000] [0xDD, 0xCB, 0x00, 0x47]) (fun t =>
      !t.alive && refusedBytes t [0xDD#8, 0xCB#8, 0x00#8, 0x47#8] &&
      t.outcome == some .illegalInstruction) = true := by
  decide

theorem test_V44_1_ex_de_hl :
    stepGives (core 65536 0 [.reg8 .d 0x11, .reg8 .e 0x11, .reg8 .h 0x22, .reg8 .l 0x22] [0xEB]) (fun t =>
      t.de == 0x2222#16 && t.hl == 0x1111#16 && t.alive) = true := by
  decide

theorem test_V44_2_exx :
    stepGives (core 65536 0 [.reg8 .b 0x01, .reg8 .c 0x02, .reg8 .d 0x03, .reg8 .e 0x04, .reg8 .h 0x05,
      .reg8 .l 0x06, .shadow8 .b 0xAA, .shadow8 .c 0xBB, .shadow8 .l 0xCC] [0xD9]) (fun t =>
      t.bc == 0xAABB#16 && t.de == 0x0000#16 && t.hl == 0x00CC#16 && t.bc' == 0x0102#16 && t.de' == 0x0304#16 &&
      t.hl' == 0x0506#16 && t.alive) = true := by
  decide

theorem test_V44_3_ex_af_af :
    stepGives (core 65536 0 [.reg8 .a 0x12, .f 0x34, .shadow8 .a 0x56, .shadowF 0x78] [0x08]) (fun t =>
      t.af == 0x5678#16 && t.af' == 0x1234#16 && t.alive) = true := by
  decide

theorem test_V44_4_ex_sp_hl :
    stepGives (core 65536 0 [.reg8 .h 0x12, .reg8 .l 0x34, .sp 0x8000, .byte 0x8000 0x78,
      .byte 0x8001 0x56] [0xE3]) (fun t =>
      t.hl == 0x5678#16 && t.mem.get 0x8000 == 0x34#8 && t.mem.get 0x8001 == 0x12#8 && t.sp == 0x8000#16 &&
      t.alive) = true := by
  decide

theorem test_V44_5_ex_sp_ix :
    stepGives (core 65536 0 [.ix 0xABCD, .sp 0xFFFF, .byte 0xFFFF 0x11] [0xDD, 0xE3]) (fun t =>
      t.ix == 0xDD11#16 && t.mem.get 0xFFFF == 0xCD#8 && t.mem.get 0x0000 == 0xAB#8 && t.alive) = true := by
  decide

theorem test_V44_6_ldi :
    stepGives (core 65536 0 [.reg8 .b 0x00, .reg8 .c 0x02, .reg8 .h 0x40, .reg8 .l 0x00, .reg8 .d 0x50,
      .reg8 .e 0x00, .byte 0x4000 0x99, .f 0xC1] [0xED, 0xA0]) (fun t =>
      t.bc == 0x0001#16 && t.de == 0x5001#16 && t.hl == 0x4001#16 && t.mem.get 0x5000 == 0x99#8 && t.f == 0xC5#8 &&
      t.alive) = true := by
  decide

theorem test_V44_8_ldd :
    stepGives (core 65536 0 [.reg8 .b 0x00, .reg8 .c 0x00, .reg8 .h 0x00, .reg8 .l 0x00, .reg8 .d 0x00,
      .reg8 .e 0x00] [0xED, 0xA8]) (fun t =>
      t.bc == 0xFFFF#16 && t.de == 0xFFFF#16 && t.hl == 0xFFFF#16 && t.alive) = true := by
  decide

theorem test_V44_10_ldir :
    stepGives (core 65536 0 [.reg8 .b 0x00, .reg8 .c 0x03, .reg8 .h 0x40, .reg8 .l 0x00, .reg8 .d 0x50,
      .reg8 .e 0x00] [0xED, 0xB0]) (fun t =>
      t.bc == 0x0002#16 && t.hl == 0x4001#16 && t.de == 0x5001#16 && t.pc == 0x0000#16 && t.alive) = true := by
  decide

theorem test_V44_13_cpi :
    stepGives (core 65536 0 [.reg8 .a 0x10, .reg8 .h 0x40, .reg8 .l 0x00, .reg8 .b 0x00, .reg8 .c 0x02,
      .byte 0x4000 0x10, .f 0x01] [0xED, 0xA1]) (fun t =>
      t.hl == 0x4001#16 && t.bc == 0x0001#16 && t.f == 0x47#8 && t.alive) = true := by
  decide

theorem test_V44_15_cpd :
    stepGives (core 65536 0 [.reg8 .a 0x00, .reg8 .h 0x40, .reg8 .l 0x00, .reg8 .b 0x00, .reg8 .c 0x05,
      .byte 0x4000 0x01] [0xED, 0xA9]) (fun t =>
      t.hl == 0x3FFF#16 && t.bc == 0x0004#16 && t.f == 0x96#8 && t.alive) = true := by
  decide

theorem test_V45_1_ld_a_b :
    stepGives (core 65536 0 [.reg8 .b 0x9C, .f 0x00] [0x78]) (fun t =>
      t.a == 0x9C#8 && t.f == 0x00#8 && t.alive) = true := by
  decide

theorem test_V45_3_ld_h_fe :
    stepGives (core 65536 0 [] [0x26, 0xFE]) (fun t =>
      t.h == 0xFE#8 && t.pc == 0x0002#16 && t.alive) = true := by
  decide

theorem test_V45_4_ld_a_hl :
    stepGives (core 65536 0 [.reg8 .h 0x40, .reg8 .l 0x00, .byte 0x4000 0x77] [0x7E]) (fun t =>
      t.a == 0x77#8 && t.alive) = true := by
  decide

theorem test_V45_5_ld_h_ix_1 :
    stepGives (core 65536 0 [.ix 0x4000, .byte 0x4001 0x3C] [0xDD, 0x66, 0x01]) (fun t =>
      t.h == 0x3C#8 && t.ix == 0x4000#16 && t.alive) = true := by
  decide

theorem test_V45_7_ld_hl_b :
    stepGives (core 65536 0 [.reg8 .h 0x40, .reg8 .l 0x00, .reg8 .b 0x5A] [0x70]) (fun t =>
      t.mem.get 0x4000 == 0x5A#8 && t.alive) = true := by
  decide

theorem test_V45_8_ld_ix_0_l :
    stepGives (core 65536 0 [.ix 0x4000, .reg8 .l 0x11] [0xDD, 0x75, 0x00]) (fun t =>
      t.mem.get 0x4000 == 0x11#8 && t.alive) = true := by
  decide

theorem test_V45_9_ld_hl_ab :
    stepGives (core 65536 0 [.reg8 .h 0x40, .reg8 .l 0x00] [0x36, 0xAB]) (fun t =>
      t.mem.get 0x4000 == 0xAB#8 && t.pc == 0x0002#16 && t.alive) = true := by
  decide

theorem test_V45_10_ld_iy_1_12 :
    stepGives (core 65536 0 [.iy 0x4000] [0xFD, 0x36, 0xFF, 0x12]) (fun t =>
      t.mem.get 0x3FFF == 0x12#8 && t.pc == 0x0004#16 && t.alive) = true := by
  decide

theorem test_V45_11_ld_a_bc :
    stepGives (core 65536 0 [.reg8 .b 0x40, .reg8 .c 0x00, .byte 0x4000 0x21] [0x0A]) (fun t =>
      t.a == 0x21#8 && t.alive) = true := by
  decide

theorem test_V45_12_ld_a_de :
    stepGives (core 65536 0 [.reg8 .d 0x40, .reg8 .e 0x00, .byte 0x4000 0x22] [0x1A]) (fun t =>
      t.a == 0x22#8 && t.alive) = true := by
  decide

theorem test_V45_13_ld_a_4000 :
    stepGives (core 65536 0 [.byte 0x4000 0x23] [0x3A, 0x00, 0x40]) (fun t =>
      t.a == 0x23#8 && t.pc == 0x0003#16 && t.alive) = true := by
  decide

theorem test_V45_14_ld_bc_a :
    stepGives (core 65536 0 [.reg8 .a 0x31, .reg8 .b 0x40, .reg8 .c 0x00] [0x02]) (fun t =>
      t.mem.get 0x4000 == 0x31#8 && t.alive) = true := by
  decide

theorem test_V45_15_ld_de_a :
    stepGives (core 65536 0 [.reg8 .a 0x32, .reg8 .d 0x40, .reg8 .e 0x00] [0x12]) (fun t =>
      t.mem.get 0x4000 == 0x32#8 && t.alive) = true := by
  decide

theorem test_V45_16_ld_4000_a :
    stepGives (core 65536 0 [.reg8 .a 0x33] [0x32, 0x00, 0x40]) (fun t =>
      t.mem.get 0x4000 == 0x33#8 && t.alive) = true := by
  decide

theorem test_V45_17_ld_a_i :
    stepGives (core 65536 0 [.i 0x80, .iff2 true] [0xED, 0x57]) (fun t =>
      t.a == 0x80#8 && t.f == 0x84#8 && t.alive) = true := by
  decide

theorem test_V45_19_ld_a_r :
    stepGives (core 65536 0 [.r 0x7E, .iff1 true, .iff2 true] [0xED, 0x5F]) (fun t =>
      t.a == 0x00#8 && t.r == 0x00#8 && t.f == 0x44#8 && t.alive) = true := by
  decide

theorem test_V45_21_ld_i_a :
    stepGives (core 65536 0 [.reg8 .a 0x9A] [0xED, 0x47]) (fun t =>
      t.i == 0x9A#8 && t.alive) = true := by
  decide

theorem test_V45_22_ld_r_a :
    stepGives (core 65536 0 [.reg8 .a 0x85] [0xED, 0x4F]) (fun t =>
      t.r == 0x85#8 && t.alive) = true := by
  decide

theorem test_V45_23_ld_bc_1234 :
    stepGives (core 65536 0 [] [0x01, 0x34, 0x12]) (fun t =>
      t.bc == 0x1234#16 && t.pc == 0x0003#16 && t.alive) = true := by
  decide

theorem test_V45_25_ld_ix_abcd :
    stepGives (core 65536 0 [] [0xDD, 0x21, 0xCD, 0xAB]) (fun t =>
      t.ix == 0xABCD#16 && t.pc == 0x0004#16 && t.alive) = true := by
  decide

theorem test_V45_26_ld_hl_4000 :
    stepGives (core 65536 0 [.byte 0x4000 0x34, .byte 0x4001 0x12] [0x2A, 0x00, 0x40]) (fun t =>
      t.hl == 0x1234#16 && t.alive) = true := by
  decide

theorem test_V45_27_ld_sp_ffff :
    stepGives (core 65536 0x1000 [.byte 0x0000 0x02, .byte 0xFFFF 0x01] [0xED, 0x7B, 0xFF, 0xFF]) (fun t =>
      t.sp == 0x0201#16 && t.alive) = true := by
  decide

theorem test_V45_28_ld_iy_4000 :
    stepGives (core 65536 0 [.byte 0x4000 0x78, .byte 0x4001 0x56] [0xFD, 0x2A, 0x00, 0x40]) (fun t =>
      t.iy == 0x5678#16 && t.alive) = true := by
  decide

theorem test_V45_29_ld_4000_hl :
    stepGives (core 65536 0 [.reg8 .h 0xBE, .reg8 .l 0xEF] [0x22, 0x00, 0x40]) (fun t =>
      t.mem.get 0x4000 == 0xEF#8 && t.mem.get 0x4001 == 0xBE#8 && t.alive) = true := by
  decide

theorem test_V45_30_ld_4000_bc :
    stepGives (core 65536 0 [.reg8 .b 0x12, .reg8 .c 0x34] [0xED, 0x43, 0x00, 0x40]) (fun t =>
      t.mem.get 0x4000 == 0x34#8 && t.mem.get 0x4001 == 0x12#8 && t.alive) = true := by
  decide

theorem test_V45_31_ld_4000_ix :
    stepGives (core 65536 0 [.ix 0x5678] [0xDD, 0x22, 0x00, 0x40]) (fun t =>
      t.mem.get 0x4000 == 0x78#8 && t.mem.get 0x4001 == 0x56#8 && t.alive) = true := by
  decide

theorem test_V45_32_ld_sp_hl :
    stepGives (core 65536 0 [.reg8 .h 0x12, .reg8 .l 0x34] [0xF9]) (fun t =>
      t.sp == 0x1234#16 && t.alive) = true := by
  decide

theorem test_V45_33_ld_sp_iy :
    stepGives (core 65536 0 [.iy 0x4321] [0xFD, 0xF9]) (fun t =>
      t.sp == 0x4321#16 && t.alive) = true := by
  decide

theorem test_V45_34_push_bc :
    stepGives (core 65536 0 [.reg8 .b 0xCA, .reg8 .c 0xF3, .sp 0x08] [0xC5]) (fun t =>
      t.mem.get 0x0007 == 0xCA#8 && t.mem.get 0x0006 == 0xF3#8 && t.sp == 0x0006#16 && t.alive) = true := by
  decide

theorem test_V45_36_push_ix :
    stepGives (core 65536 0 [.ix 0xA1B2, .sp 0x4000] [0xDD, 0xE5]) (fun t =>
      t.mem.get 0x3FFF == 0xA1#8 && t.mem.get 0x3FFE == 0xB2#8 && t.sp == 0x3FFE#16 && t.alive) = true := by
  decide

theorem test_V45_37_pop_hl :
    stepGives (core 65536 0 [.sp 0x4000, .byte 0x4000 0x34, .byte 0x4001 0x12] [0xE1]) (fun t =>
      t.hl == 0x1234#16 && t.sp == 0x4002#16 && t.alive) = true := by
  decide

theorem test_V45_38_pop_af :
    stepGives (core 65536 0x1000 [.sp 0xFFFF, .byte 0x0000 0x00, .byte 0xFFFF 0xFF] [0xF1]) (fun t =>
      t.a == 0x00#8 && t.f == 0xFF#8 && t.sp == 0x0001#16 && t.alive) = true := by
  decide

theorem test_V45_39_pop_iy :
    stepGives (core 65536 0 [.sp 0x4000, .byte 0x4000 0xEF, .byte 0x4001 0xBE] [0xFD, 0xE1]) (fun t =>
      t.iy == 0xBEEF#16 && t.sp == 0x4002#16 && t.alive) = true := by
  decide

theorem test_V46_1_jp_0007 :
    stepGives (core 65536 0 [] [0xC3, 0x07, 0x00]) (fun t =>
      t.pc == 0x0007#16 && t.alive) = true := by
  decide

theorem test_V46_2_jp_z_8000 :
    stepGives (core 65536 0 [.f 0x40] [0xCA, 0x00, 0x80]) (fun t =>
      t.pc == 0x8000#16 && t.alive) = true := by
  decide

theorem test_V46_8_jr_2 :
    stepGives (core 65536 0x1000 [] [0x18, 0xFE]) (fun t =>
      t.pc == 0x1000#16 && t.alive) = true := by
  decide

theorem test_V46_12_jr_nz_16 :
    stepGives (core 65536 0x1000 [.f 0x40] [0x20, 0x10]) (fun t =>
      t.pc == 0x1002#16 && t.alive) = true := by
  decide

theorem test_V46_13_jr_c_16 :
    stepGives (core 65536 0x1000 [.f 0x01] [0x38, 0x10]) (fun t =>
      t.pc == 0x1012#16 && t.alive) = true := by
  decide

theorem test_V46_15_djnz_2 :
    stepGives (core 65536 0x1000 [.reg8 .b 0x02] [0x10, 0xFE]) (fun t =>
      t.b == 0x01#8 && t.pc == 0x1000#16 && t.alive) = true := by
  decide

theorem test_V46_16_djnz_2 :
    stepGives (core 65536 0x1000 [.reg8 .b 0x01] [0x10, 0xFE]) (fun t =>
      t.b == 0x00#8 && t.pc == 0x1002#16 && t.alive) = true := by
  decide

theorem test_V46_18_jp_hl :
    stepGives (core 65536 0 [.reg8 .h 0xFF, .reg8 .l 0xFF] [0xE9]) (fun t =>
      t.pc == 0xFFFF#16 && t.alive) = true := by
  decide

theorem test_V46_19_jp_ix :
    stepGives (core 65536 0 [.ix 0x1234] [0xDD, 0xE9]) (fun t =>
      t.pc == 0x1234#16 && t.alive) = true := by
  decide

theorem test_V46_20_call_2000 :
    stepGives (core 65536 0x1000 [.sp 0x4000] [0xCD, 0x00, 0x20]) (fun t =>
      t.pc == 0x2000#16 && t.sp == 0x3FFE#16 && t.mem.get 0x3FFF == 0x10#8 && t.mem.get 0x3FFE == 0x03#8 &&
      t.alive) = true := by
  decide

theorem test_V46_21_call_nz_2000 :
    stepGives (core 65536 0x1000 [.sp 0x4000, .f 0x40] [0xC4, 0x00, 0x20]) (fun t =>
      t.pc == 0x1003#16 && t.sp == 0x4000#16 && t.alive) = true := by
  decide

theorem test_V46_23_ret :
    stepGives (core 65536 0 [.sp 0x3FFE, .byte 0x3FFE 0x03, .byte 0x3FFF 0x10] [0xC9]) (fun t =>
      t.pc == 0x1003#16 && t.sp == 0x4000#16 && t.alive) = true := by
  decide

theorem test_V46_24_ret_nz :
    stepGives (core 65536 0x0500 [.sp 0x3FFE, .f 0x40, .byte 0x3FFE 0x03, .byte 0x3FFF 0x10] [0xC0]) (fun t =>
      t.pc == 0x0501#16 && t.sp == 0x3FFE#16 && t.alive) = true := by
  decide

theorem test_V46_26_reti :
    stepGives (core 65536 0 [.sp 0x2000, .iff2 true, .byte 0x2000 0x00, .byte 0x2001 0x10] [0xED, 0x4D]) (fun t =>
      t.pc == 0x1000#16 && t.sp == 0x2002#16 && t.iff1 == true && t.retiOutput == true && t.alive) = true := by
  decide

theorem test_V46_27_retn :
    stepGives (core 65536 0 [.sp 0x2000, .iff2 true, .byte 0x2000 0x00, .byte 0x2001 0x10] [0xED, 0x45]) (fun t =>
      t.pc == 0x1000#16 && t.sp == 0x2002#16 && t.iff1 == true && t.iff2 == true && t.retiOutput == false &&
      t.alive) = true := by
  decide

theorem test_V46_28_rst_38h :
    stepGives (core 65536 0x1234 [.sp 0x4000] [0xFF]) (fun t =>
      t.pc == 0x0038#16 && t.sp == 0x3FFE#16 && t.mem.get 0x3FFF == 0x12#8 && t.mem.get 0x3FFE == 0x35#8 &&
      t.alive) = true := by
  decide

theorem test_V47_1_nop :
    stepGives (core 65536 0xFFFF [.r 0x7F, .f 0xFF] [0x00]) (fun t =>
      t.pc == 0x0000#16 && t.r == 0x00#8 && t.f == 0xFF#8 && t.alive) = true := by
  decide

theorem test_V47_3_di :
    stepGives (core 65536 0 [.iff1 true, .iff2 true] [0xF3]) (fun t =>
      t.iff1 == false && t.iff2 == false && t.alive) = true := by
  decide

theorem test_V47_6_im_0 :
    stepGives (core 65536 0 [.im .im2] [0xED, 0x46]) (fun t =>
      t.im == .im0 && t.alive) = true := by
  decide

theorem test_V47_7_im_1 :
    stepGives (core 65536 0 [] [0xED, 0x56]) (fun t =>
      t.im == .im1 && t.alive) = true := by
  decide

theorem test_V47_8_im_2 :
    stepGives (core 65536 0 [] [0xED, 0x5E]) (fun t =>
      t.im == .im2 && t.alive) = true := by
  decide

theorem test_V48_1_unimplemented :
    stepGives (core 65536 0x0200 [.reg8 .a 0x11] [0xDB, 0xFE]) (fun t =>
      t.pc == 0x0200#16 && t.a == 0x11#8 && !t.alive && unimplementedFor t .ioNotInCore &&
      t.outcome == some .unimplemented) = true := by
  decide

theorem test_V48_2_unimplemented :
    stepGives (core 65536 0x0200 [] [0xED, 0x78]) (fun t =>
      t.pc == 0x0200#16 && t.r == 0x00#8 && !t.alive && unimplementedFor t .ioNotInCore &&
      t.outcome == some .unimplemented) = true := by
  decide

theorem test_V48_3_unimplemented :
    stepGives (core 65536 0 [] [0xED, 0xB2]) (fun t =>
      !t.alive && unimplementedFor t .ioNotInCore && t.outcome == some .unimplemented) = true := by
  decide

theorem test_V48_4_unimplemented :
    stepGives (core 65536 0 [] [0xED, 0xB3]) (fun t =>
      !t.alive && unimplementedFor t .ioNotInCore && t.outcome == some .unimplemented) = true := by
  decide

theorem test_V60_1_nmitaken :
    stepGives (driven (core 65536 0x1234 [.sp 0x100, .iff1 true,
      .iff2 true] [0x00]) [{ Inputs.quiet with nmiEdge := true }]) (fun t =>
      t.pc == 0x0066#16 && t.sp == 0x00FE#16 && t.mem.get 0x00FF == 0x12#8 && t.mem.get 0x00FE == 0x34#8 &&
      t.iff1 == false && t.iff2 == true && t.r == 0x01#8 && t.outcome == some .nmiTaken) = true := by
  decide

theorem test_V60_2_inttaken :
    stepGives (driven (core 65536 0x1234 [.sp 0x100, .iff1 true, .iff2 true,
      .im .im1] [0x00]) [{ Inputs.quiet with intReq := true }]) (fun t =>
      t.pc == 0x0038#16 && t.sp == 0x00FE#16 && t.mem.get 0x00FE == 0x34#8 && t.iff1 == false && t.iff2 == false &&
      t.r == 0x01#8 && t.outcome == some .intTaken) = true := by
  decide

theorem test_V60_3_inttaken :
    stepGives (driven (core 65536 0x1234 [.sp 0x100, .iff1 true, .iff2 true,
      .im .im0] [0x00]) [{ Inputs.quiet with intReq := true, busByte := 0xCF }]) (fun t =>
      t.pc == 0x0008#16 && t.sp == 0x00FE#16 && t.mem.get 0x00FF == 0x12#8 && t.mem.get 0x00FE == 0x34#8 &&
      t.outcome == some .intTaken) = true := by
  decide

theorem test_V60_5_inttaken :
    stepGives (driven (core 65536 0x1234 [.sp 0x100, .iff1 true, .iff2 true, .im .im2, .i 0x80, .byte 0x8010 0x00,
      .byte 0x8011 0x30] [0x00]) [{ Inputs.quiet with intReq := true, busByte := 0x10 }]) (fun t =>
      t.pc == 0x3000#16 && t.sp == 0x00FE#16 && t.mem.get 0x00FE == 0x34#8 && t.iff1 == false && t.iff2 == false &&
      t.outcome == some .intTaken) = true := by
  decide

theorem test_V60_7_nop :
    stepGives (driven (core 65536 0x1234 [.sp 0x100, .iff1 false, .iff2 true,
      .im .im1] [0x00]) [{ Inputs.quiet with intReq := true }]) (fun t =>
      t.pc == 0x1235#16 && t.sp == 0x0100#16 && t.alive) = true := by
  decide

theorem test_V60_8_nmitaken :
    stepGives (driven (core 65536 0x1234 [.sp 0x100, .iff1 true, .iff2 true,
      .im .im1] [0x00]) [{ Inputs.quiet with nmiEdge := true, intReq := true }]) (fun t =>
      t.pc == 0x0066#16 && t.iff1 == false && t.iff2 == true && t.outcome == some .nmiTaken) = true := by
  decide

theorem test_V60_9_reset :
    stepGives (driven (core 65536 0x1234 [.sp 0x100, .iff1 true, .iff2 true,
      .im .im1] [0x00]) [{ Inputs.quiet with reset := true, nmiEdge := true, intReq := true }]) (fun t =>
      t.pc == 0x0000#16 && t.sp == 0x0100#16 && t.iff1 == false && t.outcome == some .reset) = true := by
  decide

theorem test_V60_16_memoryfault :
    stepGives (core 0x4000 0x1000 [.sp 0x00] [0xCD, 0x00, 0x20]) (fun t =>
      t.pc == 0x1000#16 && t.sp == 0x0000#16 && !t.alive && memFaultAt t 0xFFFF#16 .write &&
      t.outcome == some .memoryFault) = true := by
  decide

theorem test_V70_2_reset :
    stepGives (driven (core 65536 0x1234 [.reg8 .b 0xBE, .reg8 .c 0xEF, .ix 0x1111, .reg8 .a 0x22, .f 0x33,
      .eiShadow true, .nmiPending true] [0x00]) [{ Inputs.quiet with reset := true }]) (fun t =>
      t.pc == 0x0000#16 && t.bc == 0xBEEF#16 && t.ix == 0x1111#16 && t.af == 0x2233#16 && t.eiShadow == false &&
      t.nmiPending == false && t.outcome == some .reset) = true := by
  decide

/-! ### Hypotheses: for every statement, states and operands that meet them

Where a statement tells accesses inside the buffer from accesses outside, the boundary is shown: the last byte of the
buffer is inside, the next address outside. -/

/-- A core of 0x4000 bytes whose registers point at the last byte of the buffer; the code at PC is `code`. -/
def atLast (code : List Byte) : State :=
  core 0x4000 0x0100 [.reg8 .a 0x12, .reg8 .b 0x3F, .reg8 .c 0xFF, .reg8 .d 0x3F, .reg8 .e 0xFF, .reg8 .h 0x3F,
    .reg8 .l 0xFF, .ix 0x3FFF, .iy 0x3FFF, .sp 0x3FFE] code

/-- The same with the registers at the first address outside. -/
def pastLast (code : List Byte) : State :=
  core 0x4000 0x0100 [.reg8 .a 0x12, .reg8 .b 0x40, .reg8 .d 0x40, .reg8 .h 0x40, .ix 0x4000, .iy 0x4000, .sp 0x4000]
    code

/-- A halted core. -/
def halted : State := core 65536 0x0100 [.run .halted] []

/-- A faulted core. -/
def faulted : State := core 65536 0x0100 [.run (.faulted (.illegalInstruction 0x0100 [0xED, 0x00]))] []

/-- A core that takes an NMI at its next step. -/
def nmiState (sp : Word) : State :=
  driven (core 0x4000 0x0100 [.sp sp, .iff1 true, .iff2 true] []) [{ Inputs.quiet with nmiEdge := true }]

/-- A core that accepts an INT at its next step. -/
def intState (m : IntMode) (bus : Byte) (sp : Word) : State :=
  driven (core 0x4000 0x0100 [.sp sp, .i 0x3F, .iff1 true, .iff2 true, .im m, .byte 0x3F10 0x78, .byte 0x3F11 0x56] [])
    [{ Inputs.quiet with intReq := true, busByte := bus }]

theorem witness_DecodeOfEncodeIsTheInstruction :
    (Instr.rlcIyd 0x80).wf = true ∧ (Instr.ldDdMem .sp 0xFFFF).wf = true ∧ (Instr.popQq .bc).wf = true := by decide

theorem witness_EncodeOfDecodeIsTheBytes : decode [0xDD#8, 0xCB#8, 0xFF#8, 0xFE#8, 0x00#8] = .instr (.setIxd 7 0xFF) := by
  decide

theorem witness_IllegalSpaceIsExact :
    isPrefixByte 0x00 = false ∧ isPrefixByte 0xFF = false ∧
    decode [0xCB#8, 0x2F#8, 0#8, 0#8] = .instr (.sraR .a) ∧ decode [0xCB#8, 0x38#8, 0#8, 0#8] = .instr (.srlR .b) ∧
    decode [0xED#8, 0xBB#8, 0#8, 0#8] = .instr .otdr ∧ decode [0xFD#8, 0xCB#8, 0#8, 0x3E#8] = .instr (.srlIyd 0) ∧
    decode [0xDD#8, 0xCB#8, 0x01#8, 0x36#8] = .illegal [0xDD#8, 0xCB#8, 0x01#8, 0x36#8] ∧
    decode [0xED#8, 0x3F#8, 0#8, 0#8] = .illegal [0xED#8, 0x3F#8] ∧
    (atLast [0xED, 0x3F]).instructionNext = true ∧ (atLast [0xED, 0x3F]).pc.toNat < (atLast [0xED, 0x3F]).mem.size ∧
    (atLast [0xED, 0x3F]).codeBytes = [0xED#8, 0x3F#8, 0#8, 0#8] := by decide

theorem witness_StepRunsTheDecodedInstruction :
    (core 0x4000 0x4000 [] []).instructionNext = true ∧ (core 0x4000 0x4000 [] []).mem.size ≤ 0x4000 ∧
    (atLast [0xED, 0x00]).instructionNext = true ∧ decode (atLast [0xED, 0x00]).codeBytes = .illegal [0xED, 0x00] ∧
    (core 0x4000 0x3FFF [] [0x3E, 0x55]).instructionNext = true ∧
    decode (core 0x4000 0x3FFF [] [0x3E, 0x55]).codeBytes = .instr (.ldRN .a 0x55) := by decide

theorem witness_EveryStepHasOneOutcome :
    (nextOf (step (atLast [0x00]))).alive = true ∧ (atLast [0xED, 0x00]).alive = true ∧
    (nextOf (step (atLast [0xED, 0x00]))).run = .faulted (.illegalInstruction 0x0100 [0xED, 0x00]) ∧
    faulted.alive = false ∧ (nextOf (step (atLast [0x76]))).haltedOutput = true ∧
    (nextOf (step (atLast [0xED, 0x4D]))).retiOutput = true := by decide

theorem witness_StepPriority :
    faulted.alive = false ∧ isNext (step faulted) = true ∧
    (driven halted [{ Inputs.quiet with reset := true, nmiEdge := true }]).nextInputs.reset = true ∧
    (nmiState 0x0002).nmiNext = true ∧ (intState .im1 0 0x0002).intNext = true ∧
    halted.alive = true ∧ halted.nmiNext = false ∧ halted.intNext = false ∧ halted.nextInputs.reset = false ∧
    (atLast [0x00]).run = .running ∧ (atLast [0x00]).intNext = false := by decide

theorem witness_FaultsArePreciseAndSticky :
    ((atLast [0xDB, 0x01]).alive = true ∧
      step (atLast [0xDB, 0x01]) = .next (nextOf (step (atLast [0xDB, 0x01]))) ∧
      (nextOf (step (atLast [0xDB, 0x01]))).alive = false) ∧ faulted.alive = false :=
  ⟨⟨by decide, eq_next (by decide), by decide⟩, by decide⟩

theorem witness_MemoryFaultIsOutsideTheBuffer :
    (pastLast [0x7E]).alive = true ∧ step (pastLast [0x7E]) = .next (nextOf (step (pastLast [0x7E]))) ∧
    (nextOf (step (pastLast [0x7E]))).run = .faulted (.memoryFault 0x4000 .read 0x0100) :=
  ⟨by decide, eq_next (by decide), by decide⟩

theorem witness_StepKeepsInvariant :
    (atLast [0x77]).inv = true ∧ step (atLast [0x77]) = .next (nextOf (step (atLast [0x77]))) :=
  ⟨by decide, eq_next (by decide)⟩

theorem witness_NmiLatchIsNeverLeftSet :
    step (nmiState 0x0002) = .next (nextOf (step (nmiState 0x0002))) ∧ (nextOf (step (nmiState 0x0002))).alive = true :=
  ⟨eq_next (by decide), by decide⟩

theorem witness_ShadowSetWriters :
    isNext (exec .exx (atLast [])) = true ∧ isNext (exec .exAfAf (atLast [])) = true ∧
    isNext (exec .popAf (atLast [])) = true := by decide

theorem witness_UnusedFlagBitsAreKept :
    Instr.daa.wf = true ∧ isNext (exec .daa (atLast [])) = true ∧ Instr.daa ≠ .popAf ∧ Instr.daa ≠ .exAfAf := by decide

/-- `P` of the state an instruction answers from `s`. -/
def execGives (i : Instr) (s : State) (p : State → Bool) : Bool := isNext (exec i s) && p (nextOf (exec i s))

theorem witness_SpecialRegisterWriters :
    (atLast []).alive = true ∧ execGives .ldIA (atLast []) (fun t => t.i != (atLast []).i) = true ∧
    execGives .im2 (atLast []) (fun t => t.im != (atLast []).im) = true ∧
    execGives .ei (atLast []) (fun t => t.iff1 && t.iff2 && t.alive && t.eiShadow) = true ∧
    execGives .retn (core 65536 0 [.iff2 true] []) (fun t => t.iff1) = true ∧
    execGives .halt (atLast []) (fun t => t.run == .halted) = true ∧
    execGives .ini (atLast []) (fun t => !t.alive) = true := by decide

theorem witness_RefreshRegisterCounts :
    execGives .ldRA (atLast []) (fun t => t.alive) = true ∧ execGives .nop (core 65536 0 [.r 0xFF] []) State.alive = true ∧
    execGives .neg (core 65536 0 [.r 0x7E] []) State.alive = true := by decide

theorem witness_PcAdvancesByTheLength :
    (core 0x4000 0x3FFE [] []).mem.wf = true ∧ writesPc (.ldIxMem 0) = false ∧
    execGives (.ldIxMem 0) (core 0x4000 0x3FFE [] []) (fun t => t.alive && t.pc == 0x0002) = true := by decide

theorem witness_IndexedAddressWraps :
    (atLast []).mem.wf = true ∧ (atLast []).ea .ix 0x00 = 0x3FFF ∧ (atLast []).ea .ix 0x01 = 0x0000 ∧
    (core 0x4000 0 [] []).ea .iy 0x80 = 0x3F80 ∧ (core 0x4000 0 [] []).ea .iy 0x7F = 0x007F := by decide

theorem witness_BuilderSettersCommute :
    (Setting.reg8 .a 1).field ≠ (Setting.reg8 .b 1).field ∧ (Setting.byte 1 2).field ≠ (Setting.byte 2 2).field ∧
    (Setting.byte 1 2).field = (Setting.byte 1 3).field ∧ (Setting.pc 1).field = (Setting.pc 2).field := by decide

theorem witness_ResetInputApplies :
    (driven halted [{ Inputs.quiet with reset := true, nmiEdge := true, intReq := true }]).alive = true ∧
    (driven halted [{ Inputs.quiet with reset := true, nmiEdge := true, intReq := true }]).nextInputs.reset = true ∧
    (driven faulted [{ Inputs.quiet with reset := true }]).nextInputs.reset = true ∧
    (driven faulted [{ Inputs.quiet with reset := true }]).alive = false := by decide

/-- The push of the response at the first and the last addresses of the buffer, and outside it at either byte. -/
theorem witness_NmiResponse :
    (nmiState 0x0002).nmiNext = true ∧ (nmiState 0x4000).nmiNext = true ∧
    (nmiState 0x0002).firstOutside (nmiState 0x0002).pushWrites = none ∧
    (nmiState 0x4000).firstOutside (nmiState 0x4000).pushWrites = none ∧
    (nmiState 0x0001).firstOutside (nmiState 0x0001).pushWrites = some (0xFFFF, .write) ∧
    (nmiState 0x4001).firstOutside (nmiState 0x4001).pushWrites = some (0x4000, .write) := by decide

theorem witness_IntResponse :
    (intState .im0 0xFF 0x0002).intNext = true ∧ (intState .im0 0xFE 0x0002).intNext = true ∧
    (intState .im1 0x00 0x0001).intNext = true ∧ (intState .im2 0x10 0x4000).intNext = true ∧
    (nextOf (step (intState .im0 0xFF 0x0002))).outcome = some .intTaken ∧
    (nextOf (step (intState .im0 0xFE 0x0002))).outcome = some .unimplemented ∧
    (nextOf (step (intState .im1 0x00 0x0001))).outcome = some .memoryFault ∧
    (nextOf (step (intState .im2 0x10 0x4000))).pc = 0x5678 ∧
    (nextOf (step (intState .im2 0xFF 0x4000))).run = .faulted (.memoryFault 0x4000 .read 0x0100) := by decide

/-- A core at EI that an INT asks for in every step. -/
def eiState : State :=
  driven (core 65536 0x0100 [.im .im1, .sp 0x4000] [0xFB, 0x00])
    [{ Inputs.quiet with intReq := true }, { Inputs.quiet with intReq := true }]

theorem witness_EiDefersTheInterrupt :
    eiState.alive = true ∧ step eiState = .next (nextOf (step eiState)) ∧
    (nextOf (step eiState)).outcome = some (.executed .ei) ∧
    step (nextOf (step eiState)) = .next (nextOf (step (nextOf (step eiState)))) ∧
    (nextOf (step eiState)).nextInputs.reset = false ∧ (nextOf (step eiState)).nextInputs.nmiEdge = false :=
  ⟨by decide, eq_next (by decide), by decide, eq_next (by decide), by decide, by decide⟩

theorem witness_RetnResumesAfterNmi :
    (nmiState 0x0002).mem.wf = true ∧ (nmiState 0x0002).nmiNext = true ∧
    step (nmiState 0x0002) = .next (nextOf (step (nmiState 0x0002))) ∧
    (nextOf (step (nmiState 0x0002))).outcome = some .nmiTaken :=
  ⟨by decide, by decide, eq_next (by decide), by decide⟩

/-- An operand in memory at the last byte of the buffer is inside, one at the next address outside; an indexed operand
wraps and is always inside. -/
theorem witness_operand_accesses :
    (atLast []).firstOutside ((atLast []).operandReads .hl) = none ∧
    (pastLast []).firstOutside ((pastLast []).operandReads .hl) = some (0x4000, .read) ∧
    (atLast []).firstOutside ((atLast []).operandReadsWrites (.idx .ix 0x01)) = none ∧
    (pastLast []).firstOutside ((pastLast []).operandReadsWrites .hl) = some (0x4000, .read) ∧
    (pastLast []).firstOutside ((pastLast []).operandReads (.idx .iy 0x00)) = none ∧
    (atLast []).firstOutside ((atLast []).operandReadsWrites (.reg .h)) = none := by decide

theorem witness_AddAndAdcSumIntoA : (AluOp.add = .add ∨ AluOp.add = .adc) ∧
    (AluSource.of .hl).value (core 65536 0 [.reg8 .h 0x40, .byte 0x4000 0x7F] []) = 0x7F := by decide

theorem witness_SubSbcAndCpSubtract : (AluOp.cp = .sub ∨ AluOp.cp = .sbc ∨ AluOp.cp = .cp) ∧
    (AluSource.imm 0xFF).value (atLast []) = 0xFF := by decide

theorem witness_AndXorOrCombineBits : (AluOp.xor = .and ∨ AluOp.xor = .xor ∨ AluOp.xor = .or) ∧
    (AluSource.of (.reg .a)).value (atLast []) = 0x12 := by decide

theorem witness_DaaMakesDecimalArithmetic :
    (99 < 100) ∧ (core 65536 0 [.reg8 .a 0x99, .f 0x01] []).a = BitVec.ofNat 8 (16 * (99 / 10) + 99 % 10) ∧
    execGives (.adcAN 0x99) (core 65536 0 [.reg8 .a 0x99, .f 0x01] []) (fun t =>
      execGives .daa t (fun u => u.a == 0x99 && flagC u.f)) = true := by decide

theorem witness_AccumulatorRotates :
    ShiftOp.rr = .rlc ∨ ShiftOp.rr = .rrc ∨ ShiftOp.rr = .rl ∨ ShiftOp.rr = .rr := by decide

theorem witness_SetAndResWriteOneBit : (BitOp.res = .set ∨ BitOp.res = .res) ∧
    execGives (.resHl 7) (core 65536 0 [.byte 0 0xFF] []) (fun t => t.mem.get 0 == 0x7F) = true := by decide

/-- DigitRotates, BlockTransferMovesOneByte, BlockSearchComparesOneByte: HL and DE at the last byte and past it. -/
theorem witness_block_accesses :
    (atLast []).firstOutside [((atLast []).hl, .read), ((atLast []).de, .write)] = none ∧
    (pastLast []).firstOutside [((pastLast []).hl, .read), ((pastLast []).de, .write)] = some (0x4000, .read) ∧
    ((pastLast []).setHL 0x0000).firstOutside [(0x0000, .read), ((pastLast []).de, .write)] = some (0x4000, .write) ∧
    (atLast []).firstOutside [((atLast []).hl, .read), ((atLast []).hl, .write)] = none := by decide

/-- PUSH, POP, CALL, RST, RET and EX (SP): the two bytes at the ends of the buffer, and either byte outside. -/
theorem witness_stack_accesses :
    (core 0x4000 0 [.sp 0x0002] []).firstOutside (core 0x4000 0 [.sp 0x0002] []).pushWrites = none ∧
    (core 0x4000 0 [.sp 0x0001] []).firstOutside (core 0x4000 0 [.sp 0x0001] []).pushWrites = some (0xFFFF, .write) ∧
    (core 65536 0 [.sp 0x0001] []).firstOutside (core 65536 0 [.sp 0x0001] []).pushWrites = none ∧
    (core 0x4000 0 [.sp 0x3FFE] []).firstOutside (core 0x4000 0 [.sp 0x3FFE] []).popReads = none ∧
    (core 0x4000 0 [.sp 0x3FFF] []).firstOutside (core 0x4000 0 [.sp 0x3FFF] []).popReads = some (0x4000, .read) := by
  decide

/-- ExchangeWithTopOfStack: its four accesses inside, and the second outside. -/
theorem witness_ExchangeWithTopOfStack :
    (atLast []).firstOutside [(0x3FFE, .read), (0x3FFF, .read), (0x3FFE, .write), (0x3FFF, .write)] = none ∧
    (atLast []).firstOutside [(0x3FFF, .read), (0x4000, .read), (0x3FFF, .write), (0x4000, .write)] =
      some (0x4000, .read) := by decide

/-- LDIR of three bytes to a place apart, so that every hypothesis of the last clause holds. -/
def ldirState : State :=
  core 65536 0 [.reg8 .c 3, .reg8 .h 0x40, .reg8 .d 0x50, .byte 0x4000 1, .byte 0x4001 2, .byte 0x4002 3] [0xED, 0xB0]

theorem witness_LdirCopiesTheBlock :
    ldirState.mem.size = 65536 ∧ ldirState.bc.toNat = 3 ∧
    (∀ j < 3, ∀ k < 3, ldirState.hl + BitVec.ofNat 16 j ≠ ldirState.de + BitVec.ofNat 16 k) ∧
    (∀ k < 3, ldirState.de + BitVec.ofNat 16 k ≠ 0x5003#16) := by decide

/-- ByteLoads, ByteStores, WordLoads and WordStores: the last byte of the buffer and the first address outside. -/
theorem witness_load_store_accesses :
    (atLast []).firstOutside [((LoadForm.bc).address (atLast []), .read)] = none ∧
    (pastLast []).firstOutside [((LoadForm.de).address (pastLast []), .read)] = some (0x4000, .read) ∧
    (atLast []).firstOutside [((StoreForm.idx .ix .a 1).address (atLast []), .write)] = none ∧
    (pastLast []).firstOutside [((StoreForm.hlImm 1).address (pastLast []), .write)] = some (0x4000, .write) ∧
    (atLast []).firstOutside [(0x3FFE, .read), (0x3FFE + 1, .read)] = none ∧
    (atLast []).firstOutside [(0x3FFF, .write), (0x3FFF + 1, .write)] = some (0x4000, .write) := by decide

/-- A PUSH of HL, another value in HL, and the POP. -/
def pushState : State := core 65536 0 [.reg8 .h 0xBE, .reg8 .l 0xEF, .sp 0x0001] []

theorem witness_PopUndoesPush :
    pushState.alive = true ∧ exec (StackReg.qq .hl).push pushState = .next (nextOf (exec (.pushQq .hl) pushState)) ∧
    (nextOf (exec (.pushQq .hl) pushState)).alive = true ∧
    exec (StackReg.qq .hl).pop ((StackReg.qq .hl).put (nextOf (exec (.pushQq .hl) pushState)) 0) =
      .next (nextOf (exec (.popQq .hl) ((StackReg.qq .hl).put (nextOf (exec (.pushQq .hl) pushState)) 0))) :=
  ⟨by decide, eq_next (o := exec (.pushQq .hl) pushState) (by decide), by decide,
    eq_next (o := exec (.popQq .hl) ((StackReg.qq .hl).put (nextOf (exec (.pushQq .hl) pushState)) 0)) (by decide)⟩

/-- A condition that holds and one that fails, for the jumps, calls and returns on a condition. -/
theorem witness_conditions :
    conditionTrue 0 0x00 = true ∧ conditionTrue 1 0x00 = false ∧ conditionTrue 3 0x01 = true ∧
    conditionTrue 4 0x04 = false ∧ conditionTrue 5 0x04 = true ∧ conditionTrue 6 0x80 = false ∧
    conditionTrue 7 0x80 = true := by decide

theorem witness_RelativeJumps :
    (core 0x4000 0x3FFF [] [0x18, 0x7F]).mem.wf = true ∧
    execGives (.jrE 0x7F) (core 0x4000 0x3FFF [] []) (fun t => t.pc == 0x0080) = true ∧
    execGives (.jrE 0x80) (core 0x4000 0x0000 [] []) (fun t => t.pc == 0x3F82) = true ∧
    execGives (.djnzE 0xFE) (core 0x4000 0x0000 [.reg8 .b 1] []) (fun t => t.pc == 0x0002) = true := by decide

theorem witness_CpuControlAndIdling :
    halted.run = .halted ∧ halted.nextInputs.reset = false ∧ halted.nmiNext = false ∧
    (driven halted [{ Inputs.quiet with intReq := true }]).intNext = false := by decide


end Sys2Proof.Tests
end

section
/-! The indexed effective address (20_memory.md R93). -/

namespace Sys2Proof.Machine

/-- The sign extension of a byte as two's complement, by its unsigned value (R7). -/
theorem sext_eq_ite (v : Byte) :
    sext v = if v.toNat < 128 then (v.toNat : Int) else (v.toNat : Int) - 256 := by
  rw [sext, BitVec.toInt_eq_toNat_cond]
  split <;> split <;> omega

/-- Settles O19: the address is a wrapped integer, and well-formed memory has a capacity the wrap is exact for. -/
theorem indexedAddressWraps : Obligations.IndexedAddressWraps := by
  intro s x d hwf
  obtain ⟨hpos, hle⟩ := Memory.size_of_wf hwf
  rw [← sext_eq_ite]
  exact ⟨wrap_toNat _ hpos hle, wrap_lt _ hpos hle⟩

end Sys2Proof.Machine
end

section
/-! The illegal space of the decoder (30_encoding.md R140). -/

namespace Sys2Proof

/-! ### What `decode` answers after each first byte -/

theorem orIllegal_eq_illegal_iff {i : Option Instr} {bytes read : List Byte} :
    orIllegal i bytes = .illegal read ↔ i = none ∧ bytes = read := by
  cases i <;> simp [orIllegal]

theorem orIllegal_eq_illegal_self_iff {i : Option Instr} {bytes : List Byte} :
    orIllegal i bytes = .illegal bytes ↔ i = none := by
  simp [orIllegal_eq_illegal_iff]

theorem decode_CB (op b2 b3 : Byte) : decode [0xCB#8, op, b2, b3] = orIllegal (decodeCB op) [0xCB#8, op] := rfl

theorem decode_ED (op b2 b3 : Byte) :
    decode [0xED#8, op, b2, b3] = orIllegal (decodeED op b2 b3) [0xED#8, op] := rfl

theorem decode_indexed {b0 : Byte} (h : b0 = 0xDD#8 ∨ b0 = 0xFD#8) (b1 b2 b3 : Byte) :
    ∃ xy, decode [b0, b1, b2, b3] = decodeIndexed xy b0 b1 b2 b3 := by
  obtain rfl | rfl := h
  · exact ⟨.ix, rfl⟩
  · exact ⟨.iy, rfl⟩

theorem decode_unprefixed {b0 : Byte} (h : isPrefixByte b0 = false) (b1 b2 b3 : Byte) :
    decode [b0, b1, b2, b3] = orIllegal (decodeMain b0 b1 b2) [b0] := by
  simp only [isPrefixByte, Bool.or_eq_false_iff, beq_eq_false_iff_ne] at h
  obtain ⟨⟨⟨hcb, hdd⟩, hed⟩, hfd⟩ := h
  simp [decode, hcb, hdd, hed, hfd]

theorem isPrefixByte_eq_true_iff {b : Byte} :
    isPrefixByte b = true ↔ b = 0xCB#8 ∨ b = 0xED#8 ∨ b = 0xDD#8 ∨ b = 0xFD#8 := by
  simp only [isPrefixByte, Bool.or_eq_true, beq_iff_eq]
  tauto

theorem decodeIndexed_CB (xy : IndexReg) (b0 d op : Byte) :
    decodeIndexed xy b0 0xCB#8 d op = orIllegal (decodeXCB xy d op) [b0, 0xCB#8, d, op] := rfl

theorem decodeIndexed_of_ne_CB (xy : IndexReg) (b0 b2 b3 : Byte) {op : Byte} (h : op ≠ 0xCB#8) :
    decodeIndexed xy b0 op b2 b3 = orIllegal (decodeXY xy op b2 b3) [b0, op] := if_neg h

/-! ### Operand bytes decide nothing about legality -/

theorem decodeMain_isNone_operands (op n1 n2 : Byte) :
    (decodeMain op n1 n2).isNone = (decodeMain op 0 0).isNone := by
  simp only [decodeMain, decodeX3]
  repeat' (split <;> try rfl)

theorem decodeED_isNone_operands (op n1 n2 : Byte) :
    (decodeED op n1 n2).isNone = (decodeED op 0 0).isNone := by
  simp only [decodeED, decodeEDX1]
  repeat' (split <;> try rfl)

theorem decodeXY_isNone_operands (xy : IndexReg) (op n1 n2 : Byte) :
    (decodeXY xy op n1 n2).isNone = (decodeXY .ix op 0 0).isNone := by
  simp only [decodeXY, decodeXYX0, decodeXYX3]
  repeat' (split <;> try rfl)

/-! ### Which opcodes each table leaves out -/

theorem decodeMain_eq_none_iff {op n1 n2 : Byte} : decodeMain op n1 n2 = none ↔ isPrefixByte op = true := by
  rw [← Option.isNone_iff_eq_none, decodeMain_isNone_operands]
  revert op
  decide

theorem shiftR_eq_none_iff {w : Nat} {r : Reg8} : shiftR w r = none ↔ w = 6 := by
  unfold shiftR
  split <;> simp_all

theorem shiftHl_eq_none_iff {w : Nat} : shiftHl w = none ↔ w = 6 := by
  unfold shiftHl
  split <;> simp_all

theorem shiftIdx_eq_none_iff {xy : IndexReg} {w : Nat} {d : Byte} : shiftIdx xy w d = none ↔ w = 6 := by
  unfold shiftIdx
  split <;> simp_all

theorem decodeCB_eq_none_iff {op : Byte} : decodeCB op = none ↔ fieldX op = 0 ∧ fieldY op = 6 := by
  unfold decodeCB
  split <;> simp_all [shiftR_eq_none_iff, shiftHl_eq_none_iff]

theorem decodeXCB_eq_none_iff {xy : IndexReg} {d op : Byte} :
    decodeXCB xy d op = none ↔ fieldZ op ≠ 6 ∨ fieldX op = 0 ∧ fieldY op = 6 := by
  unfold decodeXCB
  split
  · split <;> simp_all [shiftIdx_eq_none_iff]
  · simp_all

theorem decodeED_eq_none_iff {op n1 n2 : Byte} : decodeED op n1 n2 = none ↔
    op.toNat ≤ 0x3F ∨
    op.toNat ∈ [0x4C, 0x4E, 0x54, 0x55, 0x5C, 0x5D, 0x64, 0x65, 0x66, 0x6C, 0x6D, 0x6E, 0x70, 0x71, 0x74, 0x75,
      0x76, 0x77, 0x7C, 0x7D, 0x7E, 0x7F] ∨
    (0x80 ≤ op.toNat ∧ op.toNat ≤ 0x9F) ∨ (0xA4 ≤ op.toNat ∧ op.toNat ≤ 0xA7) ∨
    (0xAC ≤ op.toNat ∧ op.toNat ≤ 0xAF) ∨ (0xB4 ≤ op.toNat ∧ op.toNat ≤ 0xB7) ∨ 0xBC ≤ op.toNat := by
  rw [← Option.isNone_iff_eq_none, decodeED_isNone_operands]
  revert op
  decide

theorem decodeXY_eq_none_iff {xy : IndexReg} {op n1 n2 : Byte} : decodeXY xy op n1 n2 = none ↔
    op.toNat ∉ [0x09, 0x19, 0x29, 0x39, 0x21, 0x22, 0x2A, 0x23, 0x2B, 0x34, 0x35, 0x36, 0x46, 0x4E, 0x56, 0x5E,
      0x66, 0x6E, 0x7E, 0x70, 0x71, 0x72, 0x73, 0x74, 0x75, 0x77, 0x86, 0x8E, 0x96, 0x9E, 0xA6, 0xAE, 0xB6, 0xBE,
      0xE1, 0xE3, 0xE5, 0xE9, 0xF9] := by
  rw [← Option.isNone_iff_eq_none, decodeXY_isNone_operands]
  revert op
  decide

end Sys2Proof

namespace Sys2Proof.Machine

theorem fetch_of_lt {s : State} (h : s.pc.toNat < s.mem.size) : s.fetch = .ok s.codeBytes :=
  if_neg (Nat.not_le.mpr h)

theorem instructionStep_of_illegal {s : State} {read : List Byte} (hpc : s.pc.toNat < s.mem.size)
    (h : decode s.codeBytes = .illegal read) :
    instructionStep s = .next (s.raise (.illegalInstruction s.pc read)) := by
  simp [instructionStep, fetch_of_lt hpc, h]

theorem step_of_instructionNext {s : State} (h : s.instructionNext = true) :
    step s = Outcome.reporting (instructionStep s.advanceInputs) s.advanceInputs.executedOutcome := by
  simp only [State.instructionNext, Bool.and_eq_true, Bool.not_eq_true', beq_iff_eq] at h
  obtain ⟨⟨⟨⟨hrun, hreset⟩, hpending⟩, hedge⟩, hint⟩ := h
  have hint' : s.advanceInputs.acceptsInt s.nextInputs = false := hint
  simp [step, stepWith, stepBelowNmi, State.latchNmi, hrun, hreset, hpending, hedge, hint']

/-- A step at illegal bytes inside the buffer raises IllegalInstruction with the bytes read; of the rest of the state
only the model's own two fields change. -/
theorem step_of_illegal {s : State} {read : List Byte} (hnext : s.instructionNext = true)
    (hpc : s.pc.toNat < s.mem.size) (hillegal : decode s.codeBytes = .illegal read) :
    step s = .next ((s.advanceInputs.raise (.illegalInstruction s.pc read)).report .illegalInstruction) := by
  have hexec : instructionStep s.advanceInputs = .next (s.advanceInputs.raise (.illegalInstruction s.pc read)) :=
    instructionStep_of_illegal hpc hillegal
  rw [step_of_instructionNext hnext, hexec]
  rfl

end Sys2Proof.Machine
end

section
/-! The tables of R140, clause by clause, and the obligation. -/

namespace Sys2Proof

theorem decode_CB_illegal_iff (op b2 b3 : Byte) :
    decode [0xCB#8, op, b2, b3] = .illegal [0xCB#8, op] ↔ 0x30 ≤ op.toNat ∧ op.toNat ≤ 0x37 := by
  rw [decode_CB, orIllegal_eq_illegal_self_iff, decodeCB_eq_none_iff, fieldX, fieldY]
  omega

theorem decode_indexed_illegal_iff {b0 : Byte} (h : b0 = 0xDD#8 ∨ b0 = 0xFD#8) (op b2 b3 : Byte) :
    decode [b0, op, b2, b3] = .illegal [b0, op] ↔
      op.toNat ∉ [0x09, 0x19, 0x29, 0x39, 0x21, 0x22, 0x2A, 0x23, 0x2B, 0x34, 0x35, 0x36, 0x46, 0x4E, 0x56, 0x5E,
        0x66, 0x6E, 0x7E, 0x70, 0x71, 0x72, 0x73, 0x74, 0x75, 0x77, 0x86, 0x8E, 0x96, 0x9E, 0xA6, 0xAE, 0xB6, 0xBE,
        0xCB, 0xE1, 0xE3, 0xE5, 0xE9, 0xF9] := by
  obtain ⟨xy, hdecode⟩ := decode_indexed h op b2 b3
  rw [hdecode]
  by_cases hcb : op = 0xCB#8
  · subst hcb
    simp [decodeIndexed_CB, orIllegal_eq_illegal_iff]
  · have hne : op.toNat ≠ 0xCB := fun hop => hcb (BitVec.eq_of_toNat_eq hop)
    rw [decodeIndexed_of_ne_CB xy b0 b2 b3 hcb, orIllegal_eq_illegal_self_iff, decodeXY_eq_none_iff]
    simp [hne]

theorem decode_indexed_CB_illegal_iff {b0 : Byte} (h : b0 = 0xDD#8 ∨ b0 = 0xFD#8) (d op : Byte) :
    decode [b0, 0xCB#8, d, op] = .illegal [b0, 0xCB#8, d, op] ↔ op.toNat % 8 ≠ 6 ∨ op.toNat = 0x36 := by
  obtain ⟨xy, hdecode⟩ := decode_indexed h 0xCB#8 d op
  rw [hdecode, decodeIndexed_CB, orIllegal_eq_illegal_self_iff, decodeXCB_eq_none_iff, fieldX, fieldY, fieldZ]
  omega

theorem decode_unprefixed_isInstr {b0 : Byte} (h : isPrefixByte b0 = false) (b1 b2 b3 : Byte) :
    ∃ i, decode [b0, b1, b2, b3] = .instr i := by
  have hsome : decodeMain b0 b1 b2 ≠ none := by simp [decodeMain_eq_none_iff, h]
  obtain ⟨i, hi⟩ := Option.ne_none_iff_exists'.mp hsome
  exact ⟨i, by rw [decode_unprefixed h, hi, orIllegal]⟩

/-- The decoder refuses a sequence at its second byte, or at its fourth after DD CB and FD CB (R142). -/
theorem decode_illegal_bytes {b0 b1 b2 b3 : Byte} {bytes : List Byte}
    (h : decode [b0, b1, b2, b3] = .illegal bytes) :
    bytes = [b0, b1] ∨ (b1 = 0xCB#8 ∧ bytes = [b0, b1, b2, b3]) := by
  cases hprefix : isPrefixByte b0 with
  | false =>
    obtain ⟨i, hi⟩ := decode_unprefixed_isInstr hprefix b1 b2 b3
    simp [hi] at h
  | true =>
    obtain rfl | rfl | hxy := isPrefixByte_eq_true_iff.mp hprefix
    · exact .inl (orIllegal_eq_illegal_iff.mp h).2.symm
    · exact .inl (orIllegal_eq_illegal_iff.mp h).2.symm
    · obtain ⟨xy, hdecode⟩ := decode_indexed hxy b1 b2 b3
      rw [hdecode] at h
      by_cases hcb : b1 = 0xCB#8
      · subst hcb
        exact .inr ⟨rfl, (orIllegal_eq_illegal_iff.mp h).2.symm⟩
      · rw [decodeIndexed_of_ne_CB xy b0 b2 b3 hcb] at h
        exact .inl (orIllegal_eq_illegal_iff.mp h).2.symm

/-- Settles O4: which opcodes each table leaves out does not depend on the operand bytes, and an illegal sequence
raises IllegalInstruction over an otherwise unchanged state. -/
theorem illegalSpaceIsExact : Obligations.IllegalSpaceIsExact := by
  refine ⟨fun b0 b1 b2 b3 h => decode_unprefixed_isInstr h b1 b2 b3, decode_CB_illegal_iff, fun op b2 b3 => ?_,
    fun b0 op b2 b3 h => decode_indexed_illegal_iff h op b2 b3,
    fun b0 d op h => decode_indexed_CB_illegal_iff h d op,
    fun b0 b1 b2 b3 bytes h => ⟨decode_illegal_bytes h, fun s hnext hpc hcode => ?_⟩⟩
  · rw [decode_ED, orIllegal_eq_illegal_self_iff, decodeED_eq_none_iff]
  · exact ⟨_, Machine.step_of_illegal hnext hpc (hcode ▸ h), rfl, rfl⟩

end Sys2Proof
end

section
/-! The values of F after an 8-bit operation, flag by flag and as numbers (10_state.md R40 to R49). -/

namespace Sys2Proof.Machine

theorem carryNat_eq_toNat (f : Byte) : carryNat f = (flagC f).toNat := by
  unfold carryNat
  cases flagC f <;> rfl

theorem evenOnes_eq_parity (v : Byte) : evenOnes v = parity v := rfl

theorem sameUnused_setFlags (f : Byte) (e : FlagEffect) : sameUnused f (setFlags f e) := by
  simp [sameUnused]

theorem sixFlags_setFlags (f : Byte) (e : FlagEffect) :
    sixFlags (setFlags f e) =
      { s := e.s.getD (flagS f), z := e.z.getD (flagZ f), h := e.h.getD (flagH f)
        pv := e.pv.getD (flagPV f), n := e.n.getD (flagN f), c := e.c.getD (flagC f) } := by
  simp [sixFlags]

theorem add8_toNat (a b : Byte) (cin : Bool) :
    (add8 a b cin).r.toNat = (a.toNat + b.toNat + cin.toNat) % 256 := addCarry_toNat 4 a b cin

theorem sub8_toNat (a b : Byte) (cin : Bool) :
    ((sub8 a b cin).r.toNat : Int) = ((a.toNat : Int) - b.toNat - cin.toNat) % 256 := subBorrow_toNat 4 a b cin

/-- The six flags of an 8-bit addition (10_state.md R44). -/
theorem sixFlags_add8 (f a b : Byte) (cin : Bool) :
    sixFlags (setFlags f (arithEffect (add8 a b cin) false)) =
      { s := decide (128 ≤ (add8 a b cin).r.toNat)
        z := decide ((add8 a b cin).r.toNat = 0)
        h := decide (16 ≤ a.toNat % 16 + b.toNat % 16 + cin.toNat)
        pv := decide (a.toInt + b.toInt + cin.toNat < -128 ∨ 127 < a.toInt + b.toInt + cin.toNat)
        n := false
        c := decide (256 ≤ a.toNat + b.toNat + cin.toNat) } := by
  rw [sixFlags_setFlags, arithEffect, byte_msb, beq_zero_toNat, add8_v]
  rfl

/-- The six flags of an 8-bit subtraction (10_state.md R45), its result as an integer modulo 256. -/
theorem sixFlags_sub8 (f a b : Byte) (cin : Bool) :
    sixFlags (setFlags f (arithEffect (sub8 a b cin) true)) =
      { s := decide (128 ≤ ((a.toNat : Int) - b.toNat - cin.toNat) % 256)
        z := decide (((a.toNat : Int) - b.toNat - cin.toNat) % 256 = 0)
        h := decide (a.toNat % 16 < b.toNat % 16 + cin.toNat)
        pv := decide (a.toInt - b.toInt - cin.toNat < -128 ∨ 127 < a.toInt - b.toInt - cin.toNat)
        n := true
        c := decide ((a.toNat : Int) - b.toNat - cin.toNat < 0) } := by
  have hh : (sub8 a b cin).h = decide (a.toNat % 16 < b.toNat % 16 + cin.toNat) := subBorrow_h 4 a b cin
  rw [sixFlags_setFlags, arithEffect, byte_msb, beq_zero_toNat, sub8_v, hh, ← sub8_toNat]
  simp only [Option.getD_some, SixFlags.mk.injEq, decide_eq_decide, true_and]
  exact ⟨by omega, by omega, rfl⟩

/-- The six flags of a bitwise operation (40_alu8.md R205 to R207). -/
theorem sixFlags_logic (f r : Byte) (h : Bool) :
    sixFlags (setFlags f (logicEffect r h)) =
      { s := r.getLsbD 7, z := decide (r.toNat = 0), h := h, pv := evenOnes r, n := false, c := false } := by
  rw [sixFlags_setFlags, logicEffect, BitVec.msb_eq_getLsbD_last, beq_zero_toNat, evenOnes_eq_parity]
  rfl

end Sys2Proof.Machine
end

section
/-! What an 8-bit ALU operation answers, for every operand form (40_alu8.md R200). -/

namespace Sys2Proof.Machine

/-- The update of A and F each ALU operation makes with its source byte (R201 to R208). -/
def AluOp.update : AluOp → State → Byte → State
  | .add => State.aluAdd
  | .adc => State.aluAdc
  | .sub => State.aluSub
  | .sbc => State.aluSbc
  | .and => State.aluAnd
  | .xor => State.aluXor
  | .or => State.aluOr
  | .cp => State.aluCp

theorem exec_aluInstr_of (op : AluOp) (o : Operand8) (s : State) :
    exec (op.instr (.of o)) s = aluLoc (op.instr (.of o)) o op.update s := by
  match o with
  | .reg _ | .hl | .idx .ix _ | .idx .iy _ => cases op <;> rfl

theorem exec_aluInstr_imm (op : AluOp) (n : Byte) (s : State) :
    exec (op.instr (.imm n)) s = aluImm (op.instr (.imm n)) n op.update s := by
  cases op <;> rfl

/-- The next state of an ALU instruction whose source is inside the buffer. -/
def State.aluNext (s : State) (op : AluOp) (src : AluSource) : State :=
  (op.update (s.begin (op.instr src)) (src.value s)).endStep (op.instr src)

theorem aluInstr_answers (op : AluOp) (src : AluSource) (s : State) :
    Answers (exec (op.instr src) s) s (src.reads s) (s.aluNext op src) := by
  cases src with
  | of o => rw [exec_aluInstr_of]; exact aluLoc_answers _ o op.update s
  | imm n => exact answers_nil.mpr (exec_aluInstr_imm op n s)

theorem encode_aluInstr (op : AluOp) (src : AluSource) : encode (op.instr src) = op.bytes src := by
  match src with
  | .of (.reg r) => cases op <;> cases r <;> rfl
  | .of .hl | .of (.idx .ix _) | .of (.idx .iy _) | .imm _ => cases op <;> rfl

/-- No ALU operation writes anything but A and F. -/
theorem aluNext_frame (op : AluOp) (src : AluSource) (s : State) :
    s.aluNext op src = { s.after (op.instr src) with a := (s.aluNext op src).a, f := (s.aluNext op src).f } := by
  cases op <;> rfl

/-- The form of the three statements about the ALU operations: what is left is the new A and the new F. -/
theorem aluInstr_completes {op : AluOp} {src : AluSource} {s : State} {P : State → Prop}
    (h : P (s.aluNext op src)) :
    encode (op.instr src) = op.bytes src ∧
    Completes (op.instr src) s (src.reads s) fun t =>
      t = { s.after (op.instr src) with a := t.a, f := t.f } ∧ P t :=
  ⟨encode_aluInstr op src, (aluInstr_answers op src s).completes rfl ⟨aluNext_frame op src s, h⟩⟩

/-- Settles O26: ADD and ADC are one addition, with the carry-in 0 or the old C. -/
theorem addAndAdcSumIntoA : Obligations.AddAndAdcSumIntoA := by
  rintro op src s (rfl | rfl)
  · exact aluInstr_completes ⟨add8_toNat .., sixFlags_add8 .., sameUnused_setFlags ..⟩
  · simp only [carryNat_eq_toNat]
    exact aluInstr_completes ⟨add8_toNat .., sixFlags_add8 .., sameUnused_setFlags ..⟩

/-- Settles O27: SUB, SBC and CP set the flags of one subtraction; SBC alone borrows the old C, CP alone keeps A. -/
theorem subSbcAndCpSubtract : Obligations.SubSbcAndCpSubtract := by
  rintro op src s (rfl | rfl | rfl)
  · exact aluInstr_completes ⟨sub8_toNat .., sixFlags_sub8 .., sameUnused_setFlags ..⟩
  · simp only [carryNat_eq_toNat]
    exact aluInstr_completes ⟨sub8_toNat .., sixFlags_sub8 .., sameUnused_setFlags ..⟩
  · exact aluInstr_completes ⟨rfl, sixFlags_sub8 .., sameUnused_setFlags ..⟩

/-- Settles O28: the three operations differ in the bitwise function and in H. -/
theorem andXorOrCombineBits : Obligations.AndXorOrCombineBits := by
  rintro op src s (rfl | rfl | rfl)
  · exact aluInstr_completes ⟨fun k _ => BitVec.getLsbD_and, sixFlags_logic .., sameUnused_setFlags ..⟩
  · exact aluInstr_completes ⟨fun k _ => BitVec.getLsbD_xor, sixFlags_logic .., sameUnused_setFlags ..⟩
  · exact aluInstr_completes ⟨fun k _ => BitVec.getLsbD_or, sixFlags_logic .., sameUnused_setFlags ..⟩

end Sys2Proof.Machine
end

section
/-! INC and DEC of a byte (40_alu8.md R210, R211). -/

namespace Sys2Proof.Machine

/-- The result and the flag effect of INC (`up`) and DEC (R210, R211). -/
def stepByteResult (up : Bool) : Byte → Byte → Byte × FlagEffect := if up then incByte else decByte

theorem exec_stepByte (up : Bool) (o : Operand8) (s : State) :
    exec (stepByte up o) s = modifyLoc (stepByte up o) o (stepByteResult up) s := by
  match o with
  | .reg _ | .hl | .idx .ix _ | .idx .iy _ => cases up <;> rfl

theorem encode_stepByte (up : Bool) (o : Operand8) : encode (stepByte up o) = stepByteBytes up o := by
  match o with
  | .reg r => cases up <;> cases r <;> rfl
  | .hl | .idx .ix _ | .idx .iy _ => cases up <;> rfl

/-- The next state of an instruction that writes `v` back to its operand `o`, with the flag effect `e`. -/
def State.modifyNext (s : State) (i : Instr) (o : Operand8) (v : Byte) (e : FlagEffect) : State :=
  (((s.begin i).writeOperand o v).flags e).endStep i

theorem modifyLoc_answers_modifyNext (i : Instr) (o : Operand8) (g : Byte → Byte → Byte × FlagEffect) (s : State) :
    Answers (modifyLoc i o g s) s (s.operandReadsWrites o)
      (s.modifyNext i o (g s.f (s.operandValue o)).1 (g s.f (s.operandValue o)).2) :=
  modifyLoc_answers i o g s

/-- Changing an operand writes nothing but general registers, F and memory. -/
theorem modifyNext_frame (s : State) (i : Instr) (o : Operand8) (v : Byte) (e : FlagEffect) :
    s.modifyNext i o v e = { (s.after i).withGeneral (s.modifyNext i o v e) with
      f := (s.modifyNext i o v e).f, mem := (s.modifyNext i o v e).mem } := by
  match o with
  | .reg r => cases r <;> rfl
  | .hl | .idx _ _ => rfl

@[simp] theorem modifyNext_f (s : State) (i : Instr) (o : Operand8) (v : Byte) (e : FlagEffect) :
    (s.modifyNext i o v e).f = setFlags s.f e := by
  match o with
  | .reg r => cases r <;> rfl
  | .hl | .idx _ _ => rfl

theorem begin_ea (i : Instr) (s : State) (x : IndexReg) (d : Byte) : (s.begin i).ea x d = s.ea x d := by
  cases x <;> rfl

theorem modifyNext_holdsOnly (s : State) (i : Instr) (o : Operand8) (v : Byte) (e : FlagEffect) :
    holdsOnly s (s.modifyNext i o v e) o v := by
  refine holdsOnly_writeOperand s _ o v ?_ fun q => ?_
  · match o with
    | .reg r => cases r <;> rfl
    | .hl => rfl
    | .idx x d => exact congrArg (fun a : Word => s.mem.set a.toNat v) (begin_ea i s x d)
  · match o with
    | .reg r => cases r <;> cases q <;> rfl
    | .hl | .idx _ _ => cases q <;> rfl

theorem stepByteResult_toNat (up : Bool) (f v : Byte) :
    (stepByteResult up f v).1.toNat = if up then (v.toNat + 1) % 256 else (v.toNat + 255) % 256 := by
  cases up with
  | true => exact add8_toNat v 1 false
  | false =>
    have hv := v.isLt
    have h : ((sub8 v 1 false).r.toNat : Int) = ((v.toNat : Int) - 1 - 0) % 256 := sub8_toNat v 1 false
    show (sub8 v 1 false).r.toNat = (v.toNat + 255) % 256
    omega

/-- The overflow of adding or subtracting 1, at the ends of the signed range only. -/
theorem add8_one_v (v : Byte) : (add8 v 1 false).v = decide (v.toNat = 0x7F) := by
  have hv := v.isLt
  rw [add8_v, byte_toInt, decide_eq_decide]
  show _ + 1 + 0 < _ ∨ _ < _ + 1 + 0 ↔ _
  split <;> omega

theorem sub8_one_v (v : Byte) : (sub8 v 1 false).v = decide (v.toNat = 0x80) := by
  have hv := v.isLt
  rw [sub8_v, byte_toInt, decide_eq_decide]
  show _ - 1 - 0 < _ ∨ _ < _ - 1 - 0 ↔ _
  split <;> omega

theorem add8_one_h (v : Byte) : (add8 v 1 false).h = decide (v.toNat % 16 = 15) := by
  have h : (add8 v 1 false).h = decide (16 ≤ v.toNat % 16 + 1) := addCarry_h 4 v 1 false
  rw [h, decide_eq_decide]
  omega

theorem sub8_one_h (v : Byte) : (sub8 v 1 false).h = decide (v.toNat % 16 = 0) := by
  have h : (sub8 v 1 false).h = decide (v.toNat % 16 < 1) := subBorrow_h 4 v 1 false
  rw [h, decide_eq_decide]
  omega

theorem sixFlags_stepByteResult (up : Bool) (f v : Byte) :
    sixFlags (setFlags f (stepByteResult up f v).2) =
      { s := decide (128 ≤ (stepByteResult up f v).1.toNat)
        z := decide ((stepByteResult up f v).1.toNat = 0)
        h := if up then decide (v.toNat % 16 = 15) else decide (v.toNat % 16 = 0)
        pv := if up then decide (v.toNat = 0x7F) else decide (v.toNat = 0x80)
        n := !up
        c := flagC f } := by
  cases up with
  | true =>
    show sixFlags (setFlags f (incDecEffect (add8 v 1 false) false)) = _
    rw [sixFlags_setFlags, incDecEffect, byte_msb, beq_zero_toNat, add8_one_v, add8_one_h]
    rfl
  | false =>
    show sixFlags (setFlags f (incDecEffect (sub8 v 1 false) true)) = _
    rw [sixFlags_setFlags, incDecEffect, byte_msb, beq_zero_toNat, sub8_one_v, sub8_one_h]
    rfl

/-- Settles O29: the operand is rewritten by one addition or subtraction of 1, whose flags are read off v. -/
theorem incAndDecByte : Obligations.IncAndDecByte := by
  intro up o s
  refine ⟨encode_stepByte up o,
    (modifyLoc_answers_modifyNext _ o (stepByteResult up) s).completes (exec_stepByte up o s)
      ⟨modifyNext_frame .., ?_, ?_, ?_⟩⟩
  · rw [← stepByteResult_toNat up s.f, BitVec.ofNat_toNat, BitVec.setWidth_eq]
    exact modifyNext_holdsOnly ..
  · rw [modifyNext_f, sixFlags_stepByteResult, stepByteResult_toNat]
  · rw [modifyNext_f]
    exact sameUnused_setFlags ..

end Sys2Proof.Machine
end

section
/-! The instructions on A and F alone (40_alu8.md R220 to R224). -/

namespace Sys2Proof.Machine

/-! ### DAA -/

/-- The two digits of the correction do not overlap, so joining them adds them. -/
theorem daaCorrection_toNat (low high : Bool) :
    ((if low then 0x06#8 else 0#8) ||| (if high then 0x60#8 else 0#8)).toNat =
      (if low then 6 else 0) + if high then 0x60 else 0 := by
  revert low high
  decide

theorem daaAdjust_toNat (a f : Byte) :
    (daaAdjust a f).1.toNat =
      let diff := (if flagH f ∨ 9 < a.toNat % 16 then 6 else 0) + if flagC f ∨ 0x99 < a.toNat then 0x60 else 0
      if flagN f then (a.toNat + 256 - diff) % 256 else (a.toNat + diff) % 256 := by
  have hdiff := daaCorrection_toNat (flagH f || decide (9 < a.toNat % 16)) (flagC f || decide (0x99 < a.toNat))
  simp only [Bool.or_eq_true, decide_eq_true_eq] at hdiff
  simp only [daaAdjust, Bool.or_eq_true, decide_eq_true_eq]
  rw [← hdiff]
  split
  · rw [BitVec.toNat_sub]
    omega
  · exact BitVec.toNat_add ..

/-- Settles O30: exec is the adjustment of R220 in the step frame, and N is kept. -/
theorem daaAdjustsA : Obligations.DaaAdjustsA := by
  intro s
  refine ⟨rfl, _, rfl, rfl, daaAdjust_toNat s.a s.f, ?_, sameUnused_setFlags ..⟩
  show sixFlags (setFlags s.f (daaEffect (daaAdjust s.a s.f).1 (daaAdjust s.a s.f).2.1 (daaAdjust s.a s.f).2.2)) = _
  rw [sixFlags_setFlags, daaEffect, byte_msb, beq_zero_toNat, daaAdjust_toNat]
  rfl

/-! ### CPL, NEG, CCF and SCF -/

theorem sub8_zero_toNat (a : Byte) : (sub8 0 a false).r.toNat = (256 - a.toNat) % 256 := by
  have ha := a.isLt
  have h : ((sub8 0 a false).r.toNat : Int) = (0 - (a.toNat : Int) - 0) % 256 := sub8_toNat 0 a false
  omega

/-- The flags of NEG, a subtraction from 0 (R222). -/
theorem sixFlags_sub8_zero (f a : Byte) :
    sixFlags (setFlags f (arithEffect (sub8 0 a false) true)) =
      { s := decide (128 ≤ (sub8 0 a false).r.toNat)
        z := decide (a.toNat = 0)
        h := decide (a.toNat % 16 ≠ 0)
        pv := decide (a.toNat = 0x80)
        n := true
        c := decide (a.toNat ≠ 0) } := by
  have ha := a.isLt
  rw [sixFlags_sub8, byte_toInt a, sub8_zero_toNat]
  simp only [SixFlags.mk.injEq, decide_eq_decide, true_and, BitVec.ofNat_eq_ofNat, BitVec.toNat_ofNat,
    BitVec.toInt_zero, Bool.toNat_false]
  refine ⟨by omega, by omega, by omega, ?_, by omega⟩
  split <;> omega

/-- Settles O32: the flags of CPL, CCF and SCF are read off their effects, those of NEG off a subtraction from 0. -/
theorem cplNegCcfScf : Obligations.CplNegCcfScf := by
  intro s
  refine ⟨⟨rfl, _, rfl, rfl, ?_, sixFlags_setFlags .., sameUnused_setFlags ..⟩,
    ⟨rfl, _, rfl, rfl, sub8_zero_toNat s.a, sixFlags_sub8_zero .., sameUnused_setFlags ..⟩,
    ⟨rfl, _, rfl, rfl, sixFlags_setFlags .., sameUnused_setFlags ..⟩,
    ⟨rfl, _, rfl, rfl, sixFlags_setFlags .., sameUnused_setFlags ..⟩⟩
  exact BitVec.toNat_not

end Sys2Proof.Machine
end

section
/-! The values of F after a 16-bit operation, flag by flag and as numbers (10_state.md R42, R46, R47). -/

namespace Sys2Proof.Machine

theorem add16_toNat (a b : Word) (cin : Bool) :
    (add16 a b cin).r.toNat = (a.toNat + b.toNat + cin.toNat) % 65536 := addCarry_toNat 12 a b cin

theorem sub16_toNat (a b : Word) (cin : Bool) :
    (sub16 a b cin).r.toNat = (a.toNat + 131072 - b.toNat - cin.toNat) % 65536 := by
  have hb := b.isLt
  have hcin := bool_toNat_le cin
  have h : ((sub16 a b cin).r.toNat : Int) = ((a.toNat : Int) - b.toNat - cin.toNat) % 65536 :=
    subBorrow_toNat 12 a b cin
  omega

/-- S and Z of a 16-bit result as comparisons; the other flags are the operation's own (R42). -/
theorem sixFlags_arithEffect_word (f : Byte) (x : Arith 16) (n : Bool) :
    sixFlags (setFlags f (arithEffect x n)) =
      { s := decide (32768 ≤ x.r.toNat), z := decide (x.r.toNat = 0), h := x.h, pv := x.v, n := n, c := x.c } := by
  rw [sixFlags_setFlags, arithEffect, word_msb, beq_zero_toNat]
  rfl

/-- The six flags of a 16-bit addition with carry (41_alu16.md R251). -/
theorem sixFlags_add16 (f : Byte) (a b : Word) (cin : Bool) :
    sixFlags (setFlags f (arithEffect (add16 a b cin) false)) =
      { s := decide (32768 ≤ (add16 a b cin).r.toNat)
        z := decide ((add16 a b cin).r.toNat = 0)
        h := decide (4096 ≤ a.toNat % 4096 + b.toNat % 4096 + cin.toNat)
        pv := decide (a.toInt + b.toInt + cin.toNat < -32768 ∨ 32767 < a.toInt + b.toInt + cin.toNat)
        n := false
        c := decide (65536 ≤ a.toNat + b.toNat + cin.toNat) } := by
  rw [sixFlags_arithEffect_word, add16_v]
  rfl

/-- The six flags of a 16-bit subtraction with borrow (41_alu16.md R252). -/
theorem sixFlags_sub16 (f : Byte) (a b : Word) (cin : Bool) :
    sixFlags (setFlags f (arithEffect (sub16 a b cin) true)) =
      { s := decide (32768 ≤ (sub16 a b cin).r.toNat)
        z := decide ((sub16 a b cin).r.toNat = 0)
        h := decide (a.toNat % 4096 < b.toNat % 4096 + cin.toNat)
        pv := decide (a.toInt - b.toInt - cin.toNat < -32768 ∨ 32767 < a.toInt - b.toInt - cin.toNat)
        n := true
        c := decide (a.toNat < b.toNat + cin.toNat) } := by
  have hh : (sub16 a b cin).h = decide (a.toNat % 4096 < b.toNat % 4096 + cin.toNat) := subBorrow_h 12 a b cin
  have hc : (sub16 a b cin).c = decide (a.toNat < b.toNat + cin.toNat) := subBorrow_c 12 a b cin
  rw [sixFlags_arithEffect_word, sub16_v, hh, hc]

/-- The six flags of a 16-bit ADD, which keeps S, Z and PV (41_alu16.md R250). -/
theorem sixFlags_add16Effect (f : Byte) (a b : Word) :
    sixFlags (setFlags f (add16Effect (add16 a b false))) =
      { sixFlags f with
        h := decide (4096 ≤ a.toNat % 4096 + b.toNat % 4096)
        n := false
        c := decide (65536 ≤ a.toNat + b.toNat) } :=
  sixFlags_setFlags ..

end Sys2Proof.Machine
end

section
/-! ADD, ADC and SBC of 16-bit registers (41_alu16.md R250 to R254). -/

namespace Sys2Proof.Machine

/-! ### The step frame changes no 16-bit operand -/

@[simp] theorem begin_pair (i : Instr) (s : State) (p : Pair) : (s.begin i).pair p = s.pair p := by
  cases p <;> rfl

@[simp] theorem begin_index (i : Instr) (s : State) (x : IndexReg) : (s.begin i).index x = s.index x := by
  cases x <;> rfl

@[simp] theorem begin_pairX (i : Instr) (s : State) (x : IndexReg) (p : PairX) :
    (s.begin i).pairX x p = s.pairX x p := by
  cases p with
  | xy => exact begin_index i s x
  | bc | de | sp => rfl

/-! ### HL -/

/-- The next state of an instruction that writes `v` to HL, with the flag effect `e`. -/
def State.hlNext (s : State) (i : Instr) (v : Word) (e : FlagEffect) : State :=
  (((s.begin i).setHL v).flags e).endStep i

/-- Writing HL and the flags leaves everything else as the step frame does. -/
theorem hlNext_frame (s : State) (i : Instr) (v : Word) (e : FlagEffect) :
    s.hlNext i v e =
      { s.after i with h := (s.hlNext i v e).h, l := (s.hlNext i v e).l, f := (s.hlNext i v e).f } := rfl

@[simp] theorem hlNext_hl (s : State) (i : Instr) (v : Word) (e : FlagEffect) : (s.hlNext i v e).hl = v :=
  promote_hiByte_loByte v

theorem encode_addHlSs (p : Pair) : encode (.addHlSs p) = [0x09#8 + 16#8 * p.code] := by cases p <;> rfl

theorem encode_adcHlSs (p : Pair) : encode (.adcHlSs p) = [0xED#8, 0x4A#8 + 16#8 * p.code] := by cases p <;> rfl

theorem encode_sbcHlSs (p : Pair) : encode (.sbcHlSs p) = [0xED#8, 0x42#8 + 16#8 * p.code] := by cases p <;> rfl

theorem exec_addHlSs (p : Pair) (s : State) :
    exec (.addHlSs p) s = .next (s.hlNext (.addHlSs p) (add16 s.hl (s.pair p) false).r
      (add16Effect (add16 s.hl (s.pair p) false))) := by
  rw [← begin_pair (.addHlSs p) s p]
  rfl

theorem exec_adcHlSs (p : Pair) (s : State) :
    exec (.adcHlSs p) s = .next (s.hlNext (.adcHlSs p) (add16 s.hl (s.pair p) (flagC s.f)).r
      (arithEffect (add16 s.hl (s.pair p) (flagC s.f)) false)) := by
  rw [← begin_pair (.adcHlSs p) s p]
  rfl

theorem exec_sbcHlSs (p : Pair) (s : State) :
    exec (.sbcHlSs p) s = .next (s.hlNext (.sbcHlSs p) (sub16 s.hl (s.pair p) (flagC s.f)).r
      (arithEffect (sub16 s.hl (s.pair p) (flagC s.f)) true)) := by
  rw [← begin_pair (.sbcHlSs p) s p]
  rfl

/-! ### IX and IY -/

/-- ADD IX,pp and ADD IY,rr (R253, R254). -/
def addIndexInstr (x : IndexReg) (p : PairX) : Instr := x.pick (.addIxPp p) (.addIyRr p)

/-- The next state of an instruction that writes `v` to IX or IY, with the flag effect `e`. -/
def State.indexNext (s : State) (i : Instr) (x : IndexReg) (v : Word) (e : FlagEffect) : State :=
  (((s.begin i).setIndex x v).flags e).endStep i

@[simp] theorem indexNext_index (s : State) (i : Instr) (x : IndexReg) (v : Word) (e : FlagEffect) :
    (s.indexNext i x v e).index x = v := by cases x <;> rfl

@[simp] theorem indexNext_f (s : State) (i : Instr) (x : IndexReg) (v : Word) (e : FlagEffect) :
    (s.indexNext i x v e).f = setFlags s.f e := by cases x <;> rfl

/-- Writing IX or IY and the flags leaves everything else as the step frame does. -/
theorem indexNext_frame (s : State) (i : Instr) (x : IndexReg) (v : Word) (e : FlagEffect) :
    s.indexNext i x v e = { (s.after i).setIndex x v with f := setFlags s.f e } := by cases x <;> rfl

theorem encode_addIndexInstr (x : IndexReg) (p : PairX) :
    encode (addIndexInstr x p) = [if x = .ix then 0xDD#8 else 0xFD#8, 0x09#8 + 16#8 * p.code] := by
  cases x <;> cases p <;> rfl

theorem exec_addIndexInstr (x : IndexReg) (p : PairX) (s : State) :
    exec (addIndexInstr x p) s =
      .next (s.indexNext (addIndexInstr x p) x (add16 (s.index x) (s.pairX x p) false).r
        (add16Effect (add16 (s.index x) (s.pairX x p) false))) := by
  rw [← begin_pairX (addIndexInstr x p) s x p, ← begin_index (addIndexInstr x p) s x]
  cases x <;> rfl

/-- Settles O33: the three forms are one addition without carry-in, whose effect gives H, N and C only. -/
theorem addWordRegisters : Obligations.AddWordRegisters := by
  refine ⟨fun p s => ⟨encode_addHlSs p, _, exec_addHlSs p s, hlNext_frame .., ?_, sixFlags_add16Effect ..,
    sameUnused_setFlags ..⟩, fun x p s => ?_⟩
  · rw [hlNext_hl]
    exact add16_toNat ..
  · intro i
    have hi : i = addIndexInstr x p := by cases x <;> rfl
    rw [hi]
    refine ⟨encode_addIndexInstr x p, _, exec_addIndexInstr x p s, ?_⟩
    simp only [indexNext_index, indexNext_f]
    exact ⟨indexNext_frame .., add16_toNat .., sixFlags_add16Effect .., sameUnused_setFlags ..⟩

/-- Settles O34: both forms read the old C as the carry-in and set every flag of the 16-bit result. -/
theorem adcAndSbcWord : Obligations.AdcAndSbcWord := by
  intro p s
  simp only [carryNat_eq_toNat]
  refine ⟨⟨encode_adcHlSs p, _, exec_adcHlSs p s, hlNext_frame .., ?_⟩,
    encode_sbcHlSs p, _, exec_sbcHlSs p s, hlNext_frame .., ?_⟩
  · rw [hlNext_hl]
    exact ⟨add16_toNat .., sixFlags_add16 .., sameUnused_setFlags ..⟩
  · rw [hlNext_hl]
    exact ⟨sub16_toNat .., sixFlags_sub16 .., sameUnused_setFlags ..⟩

end Sys2Proof.Machine
end

section
/-! INC and DEC of 16-bit registers (41_alu16.md R255 to R258). -/

namespace Sys2Proof.Machine

theorem nextWord_toNat (up : Bool) (v : Word) :
    (nextWord up v).toNat = (v.toNat + if up then 1 else 65535) % 65536 := by
  rw [nextWord, BitVec.toNat_ofNat, Nat.mod_mod]

theorem add_one_eq_nextWord (v : Word) : v + 1 = nextWord true v :=
  BitVec.eq_of_toNat_eq ((BitVec.toNat_add v 1).trans (nextWord_toNat true v).symm)

theorem sub_one_eq_nextWord (v : Word) : v - 1 = nextWord false v := by
  refine BitVec.eq_of_toNat_eq ((BitVec.toNat_sub v 1).trans ?_)
  rw [nextWord_toNat, Nat.add_comm]
  rfl

/-! ### Register pairs -/

/-- INC ss (`up`) and DEC ss (R255, R256). -/
def stepPair (up : Bool) (p : Pair) : Instr := if up then .incSs p else .decSs p

/-- The next state of an instruction that writes `v` to a pair. -/
def State.pairNext (s : State) (i : Instr) (p : Pair) (v : Word) : State := ((s.begin i).setPair p v).endStep i

/-- Writing a pair leaves everything but general registers and SP as the step frame does. -/
theorem pairNext_frame (s : State) (i : Instr) (p : Pair) (v : Word) :
    s.pairNext i p v = { (s.after i).withGeneral (s.pairNext i p v) with sp := (s.pairNext i p v).sp } := by
  cases p <;> rfl

theorem pairNext_a (s : State) (i : Instr) (p : Pair) (v : Word) : (s.pairNext i p v).a = s.a :=
  State.setPair_a ..

theorem endStep_pair (s : State) (i : Instr) (q : Pair) : (s.endStep i).pair q = s.pair q := by cases q <;> rfl

theorem pairNext_pair (s : State) (i : Instr) (p q : Pair) (v : Word) :
    (s.pairNext i p v).pair q = if q = p then v else s.pair q := by
  rw [State.pairNext, endStep_pair, pair_setPair, begin_pair]

theorem encode_stepPair (up : Bool) (p : Pair) :
    encode (stepPair up p) = [(if up then 0x03#8 else 0x0B#8) + 16#8 * p.code] := by
  cases up <;> cases p <;> rfl

theorem exec_stepPair (up : Bool) (p : Pair) (s : State) :
    exec (stepPair up p) s = .next (s.pairNext (stepPair up p) p (nextWord up (s.pair p))) := by
  rw [← begin_pair (stepPair up p) s p]
  cases up with
  | true => rw [← add_one_eq_nextWord]; rfl
  | false => rw [← sub_one_eq_nextWord]; rfl

/-! ### IX and IY -/

/-- INC IX, INC IY (`up`), DEC IX and DEC IY (R257, R258). -/
def stepIndex (up : Bool) (x : IndexReg) : Instr := if up then x.pick .incIx .incIy else x.pick .decIx .decIy

theorem encode_stepIndex (up : Bool) (x : IndexReg) :
    encode (stepIndex up x) = [if x = .ix then 0xDD#8 else 0xFD#8, if up then 0x23#8 else 0x2B#8] := by
  cases up <;> cases x <;> rfl

theorem exec_stepIndex (up : Bool) (x : IndexReg) (s : State) :
    exec (stepIndex up x) s = .next ((s.after (stepIndex up x)).setIndex x (nextWord up (s.index x))) := by
  cases up with
  | true => rw [← add_one_eq_nextWord]; cases x <;> rfl
  | false => rw [← sub_one_eq_nextWord]; cases x <;> rfl

/-- Settles O35: the register is rewritten by `nextWord`, and the step frame alone does the rest. -/
theorem incAndDecWord : Obligations.IncAndDecWord := by
  refine ⟨fun up p s => ⟨encode_stepPair up p, _, exec_stepPair up p s, pairNext_frame .., pairNext_a ..,
    fun q => ?_⟩, fun up x s => ?_⟩
  · rw [pairNext_pair, apply_ite BitVec.toNat, nextWord_toNat]
  · intro i
    have hi : i = stepIndex up x := by cases up <;> cases x <;> rfl
    rw [hi]
    refine ⟨encode_stepIndex up x, _, exec_stepIndex up x s, ?_⟩
    rw [index_setIndex, if_pos rfl]
    exact ⟨rfl, nextWord_toNat ..⟩

end Sys2Proof.Machine
end

section
/-! Bytes put together from two fields, as numbers (42_rotate_shift.md R280 to R296). -/

namespace Sys2Proof.Machine

/-- Joining two fields that meet at bit `k` adds them. -/
theorem or_toNat_of_fields (k : Nat) {hi lo : Byte} (hhi : hi.toNat % 2 ^ k = 0) (hlo : lo.toNat < 2 ^ k) :
    (hi ||| lo).toNat = hi.toNat + lo.toNat := by
  obtain ⟨q, hq⟩ := Nat.dvd_of_mod_eq_zero hhi
  rw [BitVec.toNat_or, hq, Nat.two_pow_add_eq_or_of_lt hlo]

theorem shiftLeft_toNat (v : Byte) (k : Nat) : (v <<< k).toNat = v.toNat * 2 ^ k % 256 := by
  rw [BitVec.toNat_shiftLeft, Nat.shiftLeft_eq]

theorem ushiftRight_toNat (v : Byte) (k : Nat) : (v >>> k).toNat = v.toNat / 2 ^ k := by
  rw [BitVec.toNat_ushiftRight, Nat.shiftRight_eq_div_pow]

theorem lowDigit_toNat (v : Byte) : (v &&& 0x0F#8).toNat = v.toNat % 16 :=
  (BitVec.toNat_and ..).trans (Nat.and_two_pow_sub_one_eq_mod v.toNat 4)

/-- Masking the high digit is shifting the low one out and a zero one back in. -/
theorem highDigit_toNat (v : Byte) : (v &&& 0xF0#8).toNat = v.toNat / 16 * 16 := by
  have hv := v.isLt
  have h : v &&& 0xF0#8 = (v >>> 4) <<< 4 := (BitVec.shiftLeft_ushiftRight (n := 4)).symm
  rw [h, shiftLeft_toNat, ushiftRight_toNat]
  omega

theorem bit0_toNat (v : Byte) : (v.getLsbD 0).toNat = v.toNat % 2 := by
  rw [← BitVec.testBit_toNat, Nat.toNat_testBit, pow_zero, Nat.div_one]

theorem bit7_toNat (v : Byte) : (v.getLsbD 7).toNat = v.toNat / 128 := by
  have hv := v.isLt
  rw [← BitVec.testBit_toNat, Nat.toNat_testBit]
  omega

theorem bit0_eq_decide (v : Byte) : v.getLsbD 0 = decide (v.toNat % 2 = 1) := by
  simp only [← bit0_toNat, Bool.toNat_eq_one, Bool.decide_eq_true]

theorem bit7_eq_decide (v : Byte) : v.getLsbD 7 = decide (v.toNat / 128 = 1) := by
  simp only [← bit7_toNat, Bool.toNat_eq_one, Bool.decide_eq_true]

theorem shiftLeftIn_toNat (v : Byte) (low : Bool) :
    (shiftLeftIn v low).toNat = 2 * v.toNat % 256 + low.toNat := by
  have hlow : (if low then 0x01#8 else 0#8).toNat = low.toNat := by cases low <;> rfl
  have hbit := bool_toNat_le low
  have hshift := shiftLeft_toNat v 1
  rw [shiftLeftIn, or_toNat_of_fields 1, hlow] <;> omega

theorem shiftRightIn_toNat (v : Byte) (high : Bool) :
    (shiftRightIn v high).toNat = v.toNat / 2 + 128 * high.toNat := by
  have hhigh : (if high then 0x80#8 else 0#8).toNat = 128 * high.toNat := by cases high <;> rfl
  have hv := v.isLt
  have hshift := ushiftRight_toNat v 1
  rw [shiftRightIn, BitVec.or_comm, or_toNat_of_fields 7, hhigh] <;> omega

end Sys2Proof.Machine
end

section
/-! RLCA, RRCA, RLA and RRA, and the rotates and shifts of an operand (42_rotate_shift.md R280 to R292). -/

namespace Sys2Proof.Machine

/-- The result and the bit shifted out of each rotate and shift (R286 to R292). -/
def ShiftOp.shift : ShiftOp → Byte → Bool → Byte × Bool
  | .rlc => shiftRLC
  | .rrc => shiftRRC
  | .rl => shiftRL
  | .rr => shiftRR
  | .sla => shiftSLA
  | .sra => shiftSRA
  | .srl => shiftSRL

/-- The bit shifted out is bit 7 to the left and bit 0 to the right. -/
theorem shift_out (op : ShiftOp) (v : Byte) (cin : Bool) :
    (op.shift v cin).2 = decide (op.out v.toNat = 1) := by
  cases op with
  | rlc | rl | sla => exact bit7_eq_decide v
  | rrc | rr | sra | srl => exact bit0_eq_decide v

/-- Every rotate and shift moves the byte by one bit and lets one bit in at the other end. -/
theorem shift_result_toNat (op : ShiftOp) (v : Byte) (cin : Bool) :
    (op.shift v cin).1.toNat = op.result v.toNat cin.toNat := by
  cases op with
  | rlc => rw [ShiftOp.shift, shiftRLC, shiftLeftIn_toNat, bit7_toNat, ShiftOp.result]
  | rrc => rw [ShiftOp.shift, shiftRRC, shiftRightIn_toNat, bit0_toNat, ShiftOp.result]
  | rl => exact shiftLeftIn_toNat v cin
  | rr => exact shiftRightIn_toNat v cin
  | sla => exact shiftLeftIn_toNat v false
  | sra => rw [ShiftOp.shift, shiftSRA, shiftRightIn_toNat, bit7_toNat, ShiftOp.result]
  | srl => exact shiftRightIn_toNat v false

/-! ### The accumulator -/

/-- The form of the statement about each rotate of A, whose effect gives H, N and C only. -/
theorem exec_of_rotateA (op : ShiftOp) {i : Instr} {s : State} (h : exec i s = rotateA i op.shift s) :
    ∃ t, exec i s = .next t ∧ t = { s.after i with a := t.a, f := t.f } ∧
      t.a.toNat = op.result s.a.toNat (carryNat s.f) ∧
      sixFlags t.f = { sixFlags s.f with h := false, n := false, c := decide (op.out s.a.toNat = 1) } ∧
      sameUnused s.f t.f := by
  refine ⟨_, h, rfl, ?_, ?_, sameUnused_setFlags ..⟩
  · rw [carryNat_eq_toNat]
    exact shift_result_toNat op s.a (flagC s.f)
  · rw [← shift_out op s.a (flagC s.f)]
    exact sixFlags_setFlags ..

/-- Settles O36: the four instructions are one rotate of A in the step frame. -/
theorem accumulatorRotates : Obligations.AccumulatorRotates := by
  rintro op s (rfl | rfl | rfl | rfl)
  · exact ⟨rfl, exec_of_rotateA .rlc rfl⟩
  · exact ⟨rfl, exec_of_rotateA .rrc rfl⟩
  · exact ⟨rfl, exec_of_rotateA .rl rfl⟩
  · exact ⟨rfl, exec_of_rotateA .rr rfl⟩

/-! ### An operand -/

theorem exec_shiftInstr (op : ShiftOp) (o : Operand8) (s : State) :
    exec (op.instr o) s = modifyLoc (op.instr o) o (shiftWith op.shift) s := by
  match o with
  | .reg _ | .hl | .idx .ix _ | .idx .iy _ => cases op <;> rfl

theorem encode_shiftInstr (op : ShiftOp) (o : Operand8) : encode (op.instr o) = cbBytes op.opcode o := by
  match o with
  | .reg r => cases op <;> cases r <;> rfl
  | .hl | .idx .ix _ | .idx .iy _ => cases op <;> rfl

/-- The six flags of a rotate or shift (R285). -/
theorem sixFlags_shiftEffect (f res : Byte) (out : Bool) :
    sixFlags (setFlags f (shiftEffect res out)) =
      { s := decide (128 ≤ res.toNat), z := decide (res.toNat = 0), h := false, pv := evenOnes res, n := false
        c := out } := by
  rw [sixFlags_setFlags, shiftEffect, byte_msb, beq_zero_toNat, evenOnes_eq_parity]
  rfl

/-- Settles O37: the operand is rewritten by one rotate or shift, whose result and bit out are those of the numbers. -/
theorem rotatesAndShifts : Obligations.RotatesAndShifts := by
  intro op o s
  dsimp only
  rw [carryNat_eq_toNat, ← shift_result_toNat, ← shift_out op _ (flagC s.f), BitVec.ofNat_toNat, BitVec.setWidth_eq]
  refine ⟨encode_shiftInstr op o,
    (modifyLoc_answers_modifyNext _ o (shiftWith op.shift) s).completes (exec_shiftInstr op o s)
      ⟨modifyNext_frame .., modifyNext_holdsOnly .., ?_, ?_⟩⟩
  · rw [modifyNext_f]
    exact sixFlags_shiftEffect ..
  · rw [modifyNext_f]
    exact sameUnused_setFlags ..

end Sys2Proof.Machine
end

section
/-! RLD and RRD (42_rotate_shift.md R295, R296). -/

namespace Sys2Proof.Machine

/-- RLD (`left`) and RRD. -/
def digitInstr (left : Bool) : Instr := if left then .rld else .rrd

/-- The byte RLD and RRD write to memory, of the old A and the byte read. -/
def digitMem (left : Bool) : Byte → Byte → Byte := if left then rldMem else rrdMem

/-- The new A of RLD and RRD, of the old A and the byte read. -/
def digitAcc (left : Bool) : Byte → Byte → Byte := if left then rldAcc else rrdAcc

theorem digitMem_toNat (left : Bool) (a m : Byte) :
    (digitMem left a m).toNat =
      if left then m.toNat % 16 * 16 + a.toNat % 16 else a.toNat % 16 * 16 + m.toNat / 16 := by
  have hm := m.isLt
  cases left with
  | true =>
    show (m <<< 4 ||| a &&& 0x0F#8).toNat = m.toNat % 16 * 16 + a.toNat % 16
    have hi := shiftLeft_toNat m 4
    have lo := lowDigit_toNat a
    rw [or_toNat_of_fields 4] <;> omega
  | false =>
    show (a <<< 4 ||| m >>> 4).toNat = a.toNat % 16 * 16 + m.toNat / 16
    have hi := shiftLeft_toNat a 4
    have lo := ushiftRight_toNat m 4
    rw [or_toNat_of_fields 4] <;> omega

theorem digitAcc_toNat (left : Bool) (a m : Byte) :
    (digitAcc left a m).toNat = a.toNat / 16 * 16 + if left then m.toNat / 16 else m.toNat % 16 := by
  have hm := m.isLt
  have hi := highDigit_toNat a
  cases left with
  | true =>
    show (a &&& 0xF0#8 ||| m >>> 4).toNat = a.toNat / 16 * 16 + m.toNat / 16
    have lo := ushiftRight_toNat m 4
    rw [or_toNat_of_fields 4] <;> omega
  | false =>
    show (a &&& 0xF0#8 ||| m &&& 0x0F#8).toNat = a.toNat / 16 * 16 + m.toNat % 16
    have lo := lowDigit_toNat m
    rw [or_toNat_of_fields 4] <;> omega

/-- `u` with the A and F that RLD or RRD gives from those of `s` and the byte read, `m`. -/
def State.putDigits (s : State) (left : Bool) (u : State) (m : Byte) : State :=
  { u with a := digitAcc left s.a m, f := setFlags s.f (nibbleEffect (digitAcc left s.a m)) }

/-- The next state of RLD or RRD with HL inside the buffer. -/
def State.digitNext (s : State) (left : Bool) : State :=
  (s.putDigits left ((s.begin (digitInstr left)).writeOperand .hl (digitMem left s.a (s.operandValue .hl)))
    (s.operandValue .hl)).endStep (digitInstr left)

theorem digitInstr_answers (left : Bool) (s : State) :
    Answers (exec (digitInstr left) s) s [(s.hl, .read), (s.hl, .write)] (s.digitNext left) := by
  cases left with
  | true => exact frame_readWrite_answers .rld s .hl (digitMem true s.a) (s.putDigits true)
  | false => exact frame_readWrite_answers .rrd s .hl (digitMem false s.a) (s.putDigits false)

theorem encode_digitInstr (left : Bool) : encode (digitInstr left) = [0xED#8, if left then 0x6F#8 else 0x67#8] := by
  cases left <;> rfl

/-- The six flags of RLD and RRD, C kept (R295, R296). -/
theorem sixFlags_nibbleEffect (f a : Byte) :
    sixFlags (setFlags f (nibbleEffect a)) =
      { s := decide (128 ≤ a.toNat), z := decide (a.toNat = 0), h := false, pv := evenOnes a, n := false
        c := flagC f } := by
  rw [sixFlags_setFlags, nibbleEffect, byte_msb, beq_zero_toNat, evenOnes_eq_parity]
  rfl

/-- Settles O38: the operand (HL) is rewritten by one digit rotate, and the flags are those of the new A. -/
theorem digitRotates : Obligations.DigitRotates := by
  intro left s
  dsimp only
  rw [← digitMem_toNat, BitVec.ofNat_toNat, BitVec.setWidth_eq]
  exact ⟨encode_digitInstr left, (digitInstr_answers left s).completes rfl
    ⟨rfl, ⟨rfl, fun x => Memory.get_set ..⟩, digitAcc_toNat .., sixFlags_nibbleEffect .., sameUnused_setFlags ..⟩⟩

end Sys2Proof.Machine
end

section
/-! BIT, SET and RES: one bit of a byte and the encodings (43_bit.md R310 to R322; 30_encoding.md R120). -/

namespace Sys2Proof.Machine

theorem bitMask_eq_twoPow (b : BitVec 3) : bitMask b = BitVec.twoPow 8 b.toNat := rfl

theorem getLsbD_bitMask (b : BitVec 3) (k : Nat) : (bitMask b).getLsbD k = decide (k = b.toNat) := by
  have hb : b.toNat < 8 := b.isLt
  rw [bitMask_eq_twoPow, BitVec.getLsbD_twoPow, decide_eq_true hb, Bool.true_and, decide_eq_decide]
  exact eq_comm

theorem bitMask_ne_zero (b : BitVec 3) : bitMask b ≠ 0 := by
  intro h
  have hbit := getLsbD_bitMask b b.toNat
  simp [h] at hbit

/-- What BIT tests: the byte under the mask is 0 exactly when the bit is. -/
theorem and_bitMask_beq_zero (b : BitVec 3) (v : Byte) : (v &&& bitMask b == 0) = !v.getLsbD b.toNat := by
  rw [bitMask_eq_twoPow, BitVec.and_twoPow, ← bitMask_eq_twoPow]
  cases v.getLsbD b.toNat with
  | true => exact beq_eq_false_iff_ne.mpr (bitMask_ne_zero b)
  | false => rfl

/-- The byte SET (`on`) or RES writes back (R315, R320). -/
def writeBit (on : Bool) (b : BitVec 3) (v : Byte) : Byte := if on then v ||| bitMask b else v &&& ~~~bitMask b

theorem getLsbD_writeBit (on : Bool) (b : BitVec 3) (v : Byte) {k : Nat} (hk : k < 8) :
    (writeBit on b v).getLsbD k = if k = b.toNat then on else v.getLsbD k := by
  cases on with
  | true =>
    show (v ||| bitMask b).getLsbD k = _
    rw [BitVec.getLsbD_or, getLsbD_bitMask b k]
    split <;> simp [*]
  | false =>
    show (v &&& ~~~bitMask b).getLsbD k = _
    rw [BitVec.getLsbD_and, BitVec.getLsbD_not, getLsbD_bitMask b k]
    split <;> simp [*]

/-- A bit number in bits 5:3 is added to an opcode byte that leaves them 0 (30_encoding.md R116). -/
theorem or_num3AtY {c : Byte} (hc : c &&& 0x38#8 = 0) (b : BitVec 3) :
    c ||| num3AtY b = c + 8#8 * b.zeroExtend 8 := by
  have hfield : num3AtY b = 8#8 * b.zeroExtend 8 ∧ num3AtY b &&& 0x38#8 = num3AtY b := by
    revert b
    decide
  obtain ⟨hmul, hmask⟩ := hfield
  have hdisj : c &&& num3AtY b = 0 := by
    rw [← hmask, BitVec.and_comm (num3AtY b), ← BitVec.and_assoc, hc]
    exact BitVec.zero_and
  rw [← hmul, BitVec.add_eq_or_of_and_eq_zero _ _ hdisj]

/-- A register form: the field 110 of the memory forms replaced by the register's code. -/
theorem encode_bitInstr_reg (op : BitOp) (b : BitVec 3) (r : Reg8) :
    encode (op.instr b (.reg r)) = [0xCB#8, op.opcode b - 6#8 + r.code] := by
  revert b
  cases op <;> cases r <;> decide

theorem encode_bitInstr (op : BitOp) (b : BitVec 3) (o : Operand8) :
    encode (op.instr b o) = cbBytes (op.opcode b) o := by
  match o with
  | .reg r => exact encode_bitInstr_reg op b r
  | .hl => cases op <;> exact congrArg (fun c => [0xCB#8, c]) (or_num3AtY rfl b)
  | .idx .ix d => cases op <;> exact congrArg (fun c => [0xDD#8, 0xCB#8, d, c]) (or_num3AtY rfl b)
  | .idx .iy d => cases op <;> exact congrArg (fun c => [0xFD#8, 0xCB#8, d, c]) (or_num3AtY rfl b)

end Sys2Proof.Machine
end

section
/-! What BIT, SET and RES of an operand answer (43_bit.md R310 to R322). -/

namespace Sys2Proof.Machine

/-! ### BIT -/

theorem exec_bitInstr (b : BitVec 3) (o : Operand8) (s : State) :
    exec (BitOp.bit.instr b o) s = testLoc (BitOp.bit.instr b o) b o s := by
  match o with
  | .reg _ | .hl | .idx .ix _ | .idx .iy _ => rfl

/-- The six flags of BIT, S and C kept (R310). -/
theorem sixFlags_bitEffect (f t : Byte) :
    sixFlags (setFlags f (bitEffect t)) = { sixFlags f with z := t == 0, h := true, pv := t == 0, n := false } :=
  sixFlags_setFlags ..

/-- Settles O39: the operand is read once, and its bit under the mask decides Z and PV. -/
theorem bitTestsOneBit : Obligations.BitTestsOneBit := by
  intro b o s
  dsimp only
  rw [← and_bitMask_beq_zero]
  exact ⟨encode_bitInstr .bit b o, (testLoc_answers _ b o s).completes (exec_bitInstr b o s)
    ⟨rfl, sixFlags_bitEffect .., sameUnused_setFlags ..⟩⟩

/-! ### SET and RES -/

theorem exec_setResInstr {op : BitOp} (hop : op = .set ∨ op = .res) (b : BitVec 3) (o : Operand8) (s : State) :
    exec (op.instr b o) s = rewriteLoc (op.instr b o) o (writeBit (decide (op = .set)) b) s := by
  obtain rfl | rfl := hop
  all_goals
    match o with
    | .reg _ | .hl | .idx .ix _ | .idx .iy _ => rfl

/-- Writing an operand back with no flag effect is `modifyNext` with the effect that keeps every flag. -/
theorem modifyNext_no_flags (s : State) (i : Instr) (o : Operand8) (v : Byte) :
    s.modifyNext i o v {} = ((s.begin i).writeOperand o v).endStep i := by
  rw [State.modifyNext, State.flags, setFlags_none]

theorem rewriteLoc_answers_modifyNext (i : Instr) (o : Operand8) (g : Byte → Byte) (s : State) :
    Answers (rewriteLoc i o g s) s (s.operandReadsWrites o) (s.modifyNext i o (g (s.operandValue o)) {}) := by
  rw [modifyNext_no_flags]
  exact rewriteLoc_answers i o g s

/-- With no flag effect, changing an operand writes nothing but general registers and memory. -/
theorem modifyNext_no_flags_frame (s : State) (i : Instr) (o : Operand8) (v : Byte) :
    s.modifyNext i o v {} = { (s.after i).withGeneral (s.modifyNext i o v {}) with
      mem := (s.modifyNext i o v {}).mem } := by
  have hf : (s.modifyNext i o v {}).f = s.f := by rw [modifyNext_f, setFlags_none]
  conv_lhs => rw [modifyNext_frame, hf]
  rfl

/-- Settles O40: the operand is rewritten with one bit written, and no flag effect. -/
theorem setAndResWriteOneBit : Obligations.SetAndResWriteOneBit := by
  intro op b o s hop
  exact ⟨encode_bitInstr op b o,
    (rewriteLoc_answers_modifyNext _ o (writeBit (decide (op = .set)) b) s).completes (exec_setResInstr hop b o s)
      ⟨modifyNext_no_flags_frame .., _, modifyNext_holdsOnly .., fun _ hk => getLsbD_writeBit _ b _ hk⟩⟩

end Sys2Proof.Machine
end

section
/-! Exchanges of registers with each other and with the top of the stack (44_exchange_block.md R330 to R334). -/

namespace Sys2Proof.Machine

/-! ### Registers -/

/-- Settles O41: every swap writes a pair view back as its two halves. -/
theorem exchangesSwapRegisters : Obligations.ExchangesSwapRegisters := by
  intro s
  refine ⟨⟨rfl, congrArg Host.Outcome.next ?_⟩, ⟨rfl, congrArg Host.Outcome.next ?_⟩,
    ⟨rfl, congrArg Host.Outcome.next ?_⟩⟩
  · simp only [State.setDE, State.setHL, State.hl, State.de, hiByte_promote, loByte_promote]
    rfl
  · simp only [State.setBC, State.setDE, State.setHL, State.setBC', State.setDE', State.setHL', State.bc, State.de,
      State.hl, State.bc', State.de', State.hl', hiByte_promote, loByte_promote]
    rfl
  · simp only [State.setAF, State.setAF', State.af, State.af', hiByte_promote, loByte_promote]
    rfl

/-! ### The top of the stack -/

theorem wordAt_eq_promote (s : State) (a : Word) :
    s.wordAt a = promote (s.mem.get (a + 1).toNat) (s.mem.get a.toNat) := by
  rw [State.wordAt, Nat.mul_comm, ← promote_toNat, BitVec.ofNat_toNat, BitVec.setWidth_eq]

theorem ofNat_mod_eq_loByte (v : Word) : BitVec.ofNat 8 (v.toNat % 256) = loByte v := by
  rw [← loByte_toNat, BitVec.ofNat_toNat, BitVec.setWidth_eq]

theorem ofNat_div_eq_hiByte (v : Word) : BitVec.ofNat 8 (v.toNat / 256) = hiByte v := by
  rw [← hiByte_toNat, BitVec.ofNat_toNat, BitVec.setWidth_eq]

theorem stores2_of_mem_eq {s t : State} {a b : Word} {u v : Byte}
    (h : t.mem = (s.mem.set a.toNat u).set b.toNat v) : stores2 s t a u b v := by
  rw [stores2, h]
  exact ⟨rfl, fun x => by rw [Memory.get_set, Memory.get_set]⟩

theorem encode_topReg (reg : TopReg) : encode reg.instr = reg.bytes := by
  match reg with
  | .hl | .idx .ix | .idx .iy => rfl

theorem exec_topReg (reg : TopReg) (s : State) :
    exec reg.instr s = exchangeTop reg.instr reg.get (fun u v => reg.put u v) s := by
  match reg with
  | .hl | .idx .ix | .idx .iy => rfl

theorem begin_topReg (i : Instr) (reg : TopReg) (s : State) : reg.get (s.begin i) = reg.get s := by
  cases reg with
  | hl => rfl
  | idx x => exact begin_index i s x

/-- The next state of EX (SP) with a register, its four accesses inside the buffer. -/
def TopReg.next (reg : TopReg) (s : State) : State :=
  (reg.put { s.begin reg.instr with
    mem := (s.mem.set s.sp.toNat (loByte (reg.get s))).set (s.sp + 1).toNat (hiByte (reg.get s)) }
    (s.wordAt s.sp)).endStep reg.instr

theorem topReg_answers (reg : TopReg) (s : State) :
    Answers (exec reg.instr s) s [(s.sp, .read), (s.sp + 1, .read), (s.sp, .write), (s.sp + 1, .write)]
      (reg.next s) := by
  rw [exec_topReg, TopReg.next, wordAt_eq_promote]
  exact exchangeTop_answers _ reg.get _ s (begin_topReg reg.instr reg s)

theorem topReg_next_mem (reg : TopReg) (s : State) :
    (reg.next s).mem = (s.mem.set s.sp.toNat (loByte (reg.get s))).set (s.sp + 1).toNat (hiByte (reg.get s)) := by
  match reg with
  | .hl | .idx .ix | .idx .iy => rfl

theorem topReg_get_next (reg : TopReg) (s : State) : reg.get (reg.next s) = s.wordAt s.sp := by
  match reg with
  | .hl => exact promote_hiByte_loByte _
  | .idx .ix | .idx .iy => rfl

/-- EX (SP) writes nothing but the register and memory. -/
theorem topReg_next_frame (reg : TopReg) (s : State) :
    reg.next s = { reg.put (s.after reg.instr) (s.wordAt s.sp) with mem := (reg.next s).mem } := by
  match reg with
  | .hl | .idx .ix | .idx .iy => rfl

/-- Settles O42: the three forms are one exchange, whose two writes follow both reads. -/
theorem exchangeWithTopOfStack : Obligations.ExchangeWithTopOfStack := by
  intro reg s
  dsimp only
  rw [ofNat_mod_eq_loByte, ofNat_div_eq_hiByte]
  exact ⟨encode_topReg reg, (topReg_answers reg s).completes rfl
    ⟨topReg_next_frame reg s, topReg_get_next reg s, stores2_of_mem_eq (topReg_next_mem reg s)⟩⟩

end Sys2Proof.Machine
end

section
/-! One iteration of a block transfer or a block search (44_exchange_block.md R335 to R346). -/

namespace Sys2Proof.Machine

/-! ### Counting and repeating -/

/-- The δ of R335 and R342: 1 for the incrementing forms, -1 for the decrementing ones. -/
def blockDelta (up : Bool) : Word := if up then 1 else -1

theorem add_blockDelta (up : Bool) (v : Word) : v + blockDelta up = nextWord up v := by
  cases up with
  | true => exact add_one_eq_nextWord v
  | false =>
    rw [← sub_one_eq_nextWord, BitVec.sub_eq_add_neg]
    rfl

/-- The count is exhausted exactly when it was 1. -/
theorem nextWord_false_bne_zero (v : Word) : (nextWord false v != 0) = decide (v.toNat ≠ 1) := by
  have hv := v.isLt
  have hnext : (nextWord false v).toNat = (v.toNat + 65535) % 65536 := nextWord_toNat false v
  rw [bne, beq_zero_toNat, hnext, ← decide_not, decide_eq_decide]
  omega

/-- The repeat of R340 writes PC only. -/
theorem repeatIf_eq (s : State) (again : Bool) (pc0 : Word) :
    s.repeatIf again pc0 = { s with pc := if again then pc0 else s.pc } := by
  cases again <;> rfl

/-! ### LDI, LDD, LDIR and LDDR -/

/-- The six flags of a transfer, S, Z and C kept (R335). -/
theorem sixFlags_transferEffect (f : Byte) (bc : Word) :
    sixFlags (setFlags f (transferEffect bc)) = { sixFlags f with h := false, pv := bc != 0, n := false } :=
  sixFlags_setFlags ..

theorem encode_transferInstr (up again : Bool) :
    encode (transferInstr up again) = [0xED#8, 0xA0#8 + (if up then 0 else 8#8) + if again then 0x10#8 else 0] := by
  cases up <;> cases again <;> rfl

theorem transferInstr_length (up again : Bool) : (transferInstr up again).length = 2 := by
  cases up <;> cases again <;> rfl

/-- The body of the four transfers: TransferOne, then the repeat of R340 for the forms that have it. -/
def transferBody (up again : Bool) (pc0 : Word) (t : State) : Exec State := do
  let u ← t.transferOne (blockDelta up)
  return u.repeatIf (again && u.bc != 0) pc0

theorem exec_transferInstr (up again : Bool) (s : State) :
    exec (transferInstr up again) s = frame (transferInstr up again) s (transferBody up again s.pc) := by
  cases again with
  | true => cases up <;> rfl
  | false =>
    have hbody : transferBody up false s.pc = fun t => t.transferOne (blockDelta up) :=
      funext fun t => bind_pure _
    rw [hbody]
    cases up <;> rfl

/-- `t` after TransferOne inside the buffer (R335). -/
def State.transferred (t : State) (up : Bool) : State :=
  { t with
    b := hiByte (nextWord false t.bc), c := loByte (nextWord false t.bc)
    d := hiByte (nextWord up t.de), e := loByte (nextWord up t.de)
    h := hiByte (nextWord up t.hl), l := loByte (nextWord up t.hl)
    f := setFlags t.f (transferEffect (nextWord false t.bc))
    mem := t.mem.set t.de.toNat (t.mem.get t.hl.toNat) }

theorem transferOne_ok_transferred {t : State} (up : Bool) (h0 : t.hl.toNat < t.mem.size)
    (h1 : t.de.toNat < t.mem.size) : t.transferOne (blockDelta up) = .ok (t.transferred up) := by
  rw [transferOne_ok _ h0 h1, add_blockDelta, add_blockDelta, sub_one_eq_nextWord]
  cases t
  rfl

@[simp] theorem transferred_hl (t : State) (up : Bool) : (t.transferred up).hl = nextWord up t.hl :=
  promote_hiByte_loByte (nextWord up t.hl)

@[simp] theorem transferred_de (t : State) (up : Bool) : (t.transferred up).de = nextWord up t.de :=
  promote_hiByte_loByte (nextWord up t.de)

@[simp] theorem transferred_bc (t : State) (up : Bool) : (t.transferred up).bc = nextWord false t.bc :=
  promote_hiByte_loByte (nextWord false t.bc)

/-- The next state of a transfer with HL and DE inside the buffer. -/
def State.transferNext (s : State) (up again : Bool) : State :=
  ({ (s.begin (transferInstr up again)).transferred up with
    pc := if again && decide (s.bc.toNat ≠ 1) then s.pc else s.pcPlus 2 } : State).endStep (transferInstr up again)

@[simp] theorem transferNext_f (s : State) (up again : Bool) :
    (s.transferNext up again).f = setFlags s.f (transferEffect (nextWord false s.bc)) := rfl

@[simp] theorem transferNext_hl (s : State) (up again : Bool) :
    (s.transferNext up again).hl = nextWord up s.hl := transferred_hl (s.begin (transferInstr up again)) up

@[simp] theorem transferNext_de (s : State) (up again : Bool) :
    (s.transferNext up again).de = nextWord up s.de := transferred_de (s.begin (transferInstr up again)) up

@[simp] theorem transferNext_bc (s : State) (up again : Bool) :
    (s.transferNext up again).bc = nextWord false s.bc := transferred_bc (s.begin (transferInstr up again)) up

@[simp] theorem transferNext_mem (s : State) (up again : Bool) :
    (s.transferNext up again).mem = s.mem.set s.de.toNat (s.mem.get s.hl.toNat) := rfl

@[simp] theorem transferNext_pc (s : State) (up again : Bool) :
    (s.transferNext up again).pc = if again && decide (s.bc.toNat ≠ 1) then s.pc else s.pcPlus 2 := rfl

/-- A transfer writes nothing but BC, DE, HL, F, PC and memory. -/
theorem transferNext_frame (s : State) (up again : Bool) :
    s.transferNext up again = { s.after (transferInstr up again) with
      b := (s.transferNext up again).b, c := (s.transferNext up again).c, d := (s.transferNext up again).d
      e := (s.transferNext up again).e, h := (s.transferNext up again).h, l := (s.transferNext up again).l
      f := (s.transferNext up again).f, mem := (s.transferNext up again).mem
      pc := (s.transferNext up again).pc } := rfl

theorem transferInstr_answers (up again : Bool) (s : State) :
    Answers (exec (transferInstr up again) s) s [(s.hl, .read), (s.de, .write)] (s.transferNext up again) := by
  have hpc : ((s.begin (transferInstr up again)).transferred up).pc = s.pcPlus 2 :=
    congrArg s.pcPlus (transferInstr_length up again)
  rw [exec_transferInstr]
  refine frame_answers_two (fun h0 h1 => ?_) (fun h0 => ?_) fun h0 h1 => ?_
  · rw [transferBody, transferOne_ok_transferred (t := s.begin _) up h0 h1, exec_ok_bind, exec_pure, repeatIf_eq,
      transferred_bc, nextWord_false_bne_zero, hpc]
    rfl
  · rw [transferBody, transferOne_error_read (s := s.begin _) _ h0]
    rfl
  · rw [transferBody, transferOne_error_write (s := s.begin _) _ h0 h1]
    rfl

/-- Settles O43: the four forms are one TransferOne, and only the repeating ones put PC back. -/
theorem blockTransferMovesOneByte : Obligations.BlockTransferMovesOneByte := by
  intro up again s
  refine ⟨encode_transferInstr up again, (transferInstr_answers up again s).completes rfl
    ⟨transferNext_frame .., transferNext_hl .., transferNext_de .., transferNext_bc ..,
      ⟨rfl, fun x => Memory.get_set ..⟩, transferNext_pc .., ?_, sameUnused_setFlags ..⟩⟩
  rw [← nextWord_false_bne_zero, transferNext_f]
  exact sixFlags_transferEffect ..

/-! ### The comparison of A with a byte -/

theorem sub8_no_borrow_toNat (a v : Byte) : (sub8 a v false).r.toNat = (a.toNat + 256 - v.toNat) % 256 := by
  have hv := v.isLt
  have hr : ((sub8 a v false).r.toNat : Int) = ((a.toNat : Int) - v.toNat - 0) % 256 := sub8_toNat a v false
  omega

/-- The byte matches exactly when it is A. -/
theorem sub8_no_borrow_beq_zero (a v : Byte) : ((sub8 a v false).r == 0) = decide (a.toNat = v.toNat) := by
  have ha := a.isLt
  have hv := v.isLt
  rw [beq_zero_toNat, sub8_no_borrow_toNat, decide_eq_decide]
  omega

theorem sub8_no_borrow_h (a v : Byte) : (sub8 a v false).h = decide (a.toNat % 16 < v.toNat % 16) :=
  subBorrow_h 4 a v false

/-- The six flags of a comparison of A with `v`, C kept (R342). -/
theorem sixFlags_searchEffect (f a v : Byte) (bc : Word) :
    sixFlags (setFlags f (searchEffect (sub8 a v false) bc)) =
      { s := decide (128 ≤ (a.toNat + 256 - v.toNat) % 256)
        z := decide (a.toNat = v.toNat)
        h := decide (a.toNat % 16 < v.toNat % 16)
        pv := bc != 0
        n := true
        c := flagC f } := by
  rw [sixFlags_setFlags, searchEffect, byte_msb, sub8_no_borrow_toNat, sub8_no_borrow_beq_zero, sub8_no_borrow_h]
  rfl

/-! ### CPI, CPD, CPIR and CPDR -/

theorem encode_searchInstr (up again : Bool) :
    encode (searchInstr up again) = [0xED#8, 0xA1#8 + (if up then 0 else 8#8) + if again then 0x10#8 else 0] := by
  cases up <;> cases again <;> rfl

theorem searchInstr_length (up again : Bool) : (searchInstr up again).length = 2 := by
  cases up <;> cases again <;> rfl

/-- The body of the four searches: CompareOne, then the repeat of R345 and R346 for the forms that have it. -/
def searchBody (up again : Bool) (pc0 : Word) (t : State) : Exec State := do
  let x ← t.compareOne (blockDelta up)
  return x.2.repeatIf (again && (x.2.bc != 0 && !x.1)) pc0

theorem exec_searchInstr (up again : Bool) (s : State) :
    exec (searchInstr up again) s = frame (searchInstr up again) s (searchBody up again s.pc) := by
  cases up <;> cases again <;> rfl

/-- `t` after CompareOne with HL inside the buffer (R342). -/
def State.compared (t : State) (up : Bool) : State :=
  { t with
    b := hiByte (nextWord false t.bc), c := loByte (nextWord false t.bc)
    h := hiByte (nextWord up t.hl), l := loByte (nextWord up t.hl)
    f := setFlags t.f (searchEffect (sub8 t.a (t.mem.get t.hl.toNat) false) (nextWord false t.bc)) }

theorem compareOne_ok_compared {t : State} (up : Bool) (h : t.hl.toNat < t.mem.size) :
    t.compareOne (blockDelta up) = .ok ((sub8 t.a (t.mem.get t.hl.toNat) false).r == 0, t.compared up) := by
  rw [compareOne_ok _ h, add_blockDelta, sub_one_eq_nextWord]
  cases t
  rfl

@[simp] theorem compared_hl (t : State) (up : Bool) : (t.compared up).hl = nextWord up t.hl :=
  promote_hiByte_loByte (nextWord up t.hl)

@[simp] theorem compared_bc (t : State) (up : Bool) : (t.compared up).bc = nextWord false t.bc :=
  promote_hiByte_loByte (nextWord false t.bc)

/-- The next state of a search with HL inside the buffer. -/
def State.searchNext (s : State) (up again : Bool) : State :=
  ({ (s.begin (searchInstr up again)).compared up with
    pc := if again && decide (s.bc.toNat ≠ 1) && decide (s.a.toNat ≠ (s.mem.get s.hl.toNat).toNat) then s.pc
      else s.pcPlus 2 } : State).endStep (searchInstr up again)

@[simp] theorem searchNext_f (s : State) (up again : Bool) :
    (s.searchNext up again).f =
      setFlags s.f (searchEffect (sub8 s.a (s.mem.get s.hl.toNat) false) (nextWord false s.bc)) := rfl

@[simp] theorem searchNext_hl (s : State) (up again : Bool) :
    (s.searchNext up again).hl = nextWord up s.hl := compared_hl (s.begin (searchInstr up again)) up

@[simp] theorem searchNext_bc (s : State) (up again : Bool) :
    (s.searchNext up again).bc = nextWord false s.bc := compared_bc (s.begin (searchInstr up again)) up

@[simp] theorem searchNext_pc (s : State) (up again : Bool) :
    (s.searchNext up again).pc =
      if again && decide (s.bc.toNat ≠ 1) && decide (s.a.toNat ≠ (s.mem.get s.hl.toNat).toNat) then s.pc
      else s.pcPlus 2 := rfl

/-- A search writes nothing but BC, HL, F and PC. -/
theorem searchNext_frame (s : State) (up again : Bool) :
    s.searchNext up again = { s.after (searchInstr up again) with
      b := (s.searchNext up again).b, c := (s.searchNext up again).c, h := (s.searchNext up again).h
      l := (s.searchNext up again).l, f := (s.searchNext up again).f, pc := (s.searchNext up again).pc } := rfl

theorem searchInstr_answers (up again : Bool) (s : State) :
    Answers (exec (searchInstr up again) s) s [(s.hl, .read)] (s.searchNext up again) := by
  have hpc : ((s.begin (searchInstr up again)).compared up).pc = s.pcPlus 2 :=
    congrArg s.pcPlus (searchInstr_length up again)
  rw [exec_searchInstr]
  refine frame_answers_one (fun h => ?_) fun h => ?_
  · rw [searchBody, compareOne_ok_compared (t := s.begin _) up h, exec_ok_bind, exec_pure, repeatIf_eq,
      compared_bc, nextWord_false_bne_zero, sub8_no_borrow_beq_zero, ← decide_not, ← Bool.and_assoc, hpc]
    rfl
  · rw [searchBody, compareOne_error (s := s.begin _) _ h]
    rfl

/-- Settles O44: the four forms are one CompareOne, and only the repeating ones put PC back. -/
theorem blockSearchComparesOneByte : Obligations.BlockSearchComparesOneByte := by
  intro up again s
  refine ⟨encode_searchInstr up again, (searchInstr_answers up again s).completes rfl
    ⟨searchNext_frame .., searchNext_hl .., searchNext_bc .., searchNext_pc .., ?_, sameUnused_setFlags ..⟩⟩
  rw [← nextWord_false_bne_zero, searchNext_f]
  exact sixFlags_searchEffect ..

end Sys2Proof.Machine
end

section
/-! Loads of registers from registers and immediate values (45_load.md R360, R361, R385, R386, R393, R394). -/

namespace Sys2Proof.Machine

/-! ### 8-bit registers -/

@[simp] theorem begin_reg8 (i : Instr) (s : State) (q : Reg8) : (s.begin i).reg8 q = s.reg8 q := by
  cases q <;> rfl

@[simp] theorem endStep_reg8 (i : Instr) (s : State) (q : Reg8) : (s.endStep i).reg8 q = s.reg8 q := by
  cases q <;> rfl

/-- The next state of an instruction that writes `v` to an 8-bit register. -/
def State.reg8Next (s : State) (i : Instr) (r : Reg8) (v : Byte) : State := ((s.begin i).setReg8 r v).endStep i

/-- Writing an 8-bit register leaves everything but general registers as the step frame does. -/
theorem reg8Next_frame (s : State) (i : Instr) (r : Reg8) (v : Byte) :
    s.reg8Next i r v = (s.after i).withGeneral (s.reg8Next i r v) := by
  cases r <;> rfl

theorem reg8Next_reg8 (s : State) (i : Instr) (r q : Reg8) (v : Byte) :
    (s.reg8Next i r v).reg8 q = if q = r then v else s.reg8 q := by
  rw [State.reg8Next, endStep_reg8, reg8_setReg8, begin_reg8]

theorem encode_ldRR (r r' : Reg8) : encode (.ldRR r r') = [0x40#8 + 8#8 * r.code + r'.code] := by
  cases r <;> cases r' <;> rfl

theorem exec_ldRR (r r' : Reg8) (s : State) :
    exec (.ldRR r r') s = .next (s.reg8Next (.ldRR r r') r (s.reg8 r')) := by
  rw [← begin_reg8 (.ldRR r r') s r']
  rfl

theorem encode_ldRN (r : Reg8) (n : Byte) : encode (.ldRN r n) = [0x06#8 + 8#8 * r.code, n] := by
  cases r <;> rfl

theorem exec_ldRN (r : Reg8) (n : Byte) (s : State) :
    exec (.ldRN r n) s = .next (s.reg8Next (.ldRN r n) r n) := rfl

/-! ### Pairs -/

theorem encode_ldDdNn (p : Pair) (nn : Word) :
    encode (.ldDdNn p nn) = [0x01#8 + 16#8 * p.code, loByte nn, hiByte nn] := by
  cases p <;> rfl

theorem exec_ldDdNn (p : Pair) (nn : Word) (s : State) :
    exec (.ldDdNn p nn) s = .next (s.pairNext (.ldDdNn p nn) p nn) := rfl

/-- Settles O46: each load writes one register, of 8 bits or a pair; IX, IY and SP are single fields of the state. -/
theorem registerAndImmediateLoads : Obligations.RegisterAndImmediateLoads := by
  intro s
  refine ⟨fun r r' => ?_, fun r n => ?_, fun p nn => ?_, fun nn => ?_, ?_, ?_, ?_⟩
  · exact ⟨encode_ldRR r r', _, exec_ldRR r r' s, reg8Next_frame .., fun q => reg8Next_reg8 ..⟩
  · exact ⟨encode_ldRN r n, _, exec_ldRN r n s, reg8Next_frame .., fun q => reg8Next_reg8 ..⟩
  · exact ⟨encode_ldDdNn p nn, _, exec_ldDdNn p nn s, pairNext_frame .., pairNext_a .., fun q => pairNext_pair ..⟩
  · exact ⟨rfl, rfl, rfl, rfl⟩
  all_goals exact ⟨rfl, rfl⟩

end Sys2Proof.Machine
end

section
/-! Moves between A and the registers I and R (45_load.md R377 to R380). -/

namespace Sys2Proof.Machine

/-- The six flags of LD A,I and LD A,R, C kept (R377, R378). -/
theorem sixFlags_loadSpecialEffect (f v : Byte) (iff2 : Bool) :
    sixFlags (setFlags f (loadSpecialEffect v iff2)) =
      { s := decide (128 ≤ v.toNat), z := decide (v.toNat = 0), h := false, pv := iff2, n := false
        c := flagC f } := by
  rw [sixFlags_setFlags, loadSpecialEffect, byte_msb, beq_zero_toNat]
  rfl

/-- Settles O47: the body runs after the step frame has counted the two M1 cycles, so LD A,R reads that count and
LD R,A overwrites it. -/
theorem specialRegisterLoads : Obligations.SpecialRegisterLoads := by
  intro s
  refine ⟨⟨rfl, _, rfl, rfl, ?_, ?_⟩, ⟨rfl, _, rfl, rfl, ?_, ?_, ?_⟩, ⟨rfl, rfl⟩, ⟨rfl, rfl⟩⟩
  · exact sixFlags_loadSpecialEffect s.f s.i s.iff2
  · exact sameUnused_setFlags ..
  · exact incR_toNat 2 s.r
  · exact sixFlags_loadSpecialEffect s.f (incR 2 s.r) s.iff2
  · exact sameUnused_setFlags ..

end Sys2Proof.Machine
end

section
/-! Loads and stores of a byte (45_load.md R362 to R373). -/

namespace Sys2Proof.Machine

/-! ### Loads -/

theorem encode_loadForm (form : LoadForm) : encode form.instr = form.bytes := by
  match form with
  | .hl r | .idx .ix r _ | .idx .iy r _ => cases r <;> rfl
  | .bc | .de | .abs _ => rfl

theorem exec_loadForm (form : LoadForm) (s : State) :
    exec form.instr s = loadReg form.instr form.dest (fun t => form.address t) s := by
  match form with
  | .hl _ | .idx .ix _ _ | .idx .iy _ _ | .bc | .de | .abs _ => rfl

/-- The step frame changes no register an address is computed from. -/
theorem begin_loadForm_address (form : LoadForm) (i : Instr) (s : State) :
    form.address (s.begin i) = form.address s := by
  cases form with
  | idx x _ d => exact begin_ea i s x d
  | hl | bc | de | abs => rfl

theorem loadForm_answers (form : LoadForm) (s : State) :
    Answers (exec form.instr s) s [(form.address s, .read)]
      (s.reg8Next form.instr form.dest (s.mem.get (form.address s).toNat)) := by
  rw [exec_loadForm]
  exact loadReg_answers _ _ _ s (begin_loadForm_address form _ s)

/-- Settles O48: every form is one read, at an address of the state before the step, into one 8-bit register. -/
theorem byteLoads : Obligations.ByteLoads := by
  intro form s
  exact ⟨encode_loadForm form, (loadForm_answers form s).completes rfl
    ⟨reg8Next_frame .., fun q => reg8Next_reg8 ..⟩⟩

/-! ### Stores -/

theorem encode_storeForm (form : StoreForm) : encode form.instr = form.bytes := by
  match form with
  | .hl r | .idx .ix r _ | .idx .iy r _ => cases r <;> rfl
  | .hlImm _ | .idxImm .ix _ _ | .idxImm .iy _ _ | .bc | .de | .abs _ => rfl

theorem exec_storeForm (form : StoreForm) (s : State) :
    exec form.instr s = storeByte form.instr (fun t => form.address t) (fun t => form.value t) s := by
  match form with
  | .hl _ | .idx .ix _ _ | .idx .iy _ _ | .hlImm _ | .idxImm .ix _ _ | .idxImm .iy _ _ | .bc | .de | .abs _ => rfl

theorem begin_storeForm_address (form : StoreForm) (i : Instr) (s : State) :
    form.address (s.begin i) = form.address s := by
  cases form with
  | idx x _ d | idxImm x d _ => exact begin_ea i s x d
  | hl | hlImm | bc | de | abs => rfl

theorem begin_storeForm_value (form : StoreForm) (i : Instr) (s : State) :
    form.value (s.begin i) = form.value s := by
  cases form with
  | hl r | idx _ r _ => exact begin_reg8 i s r
  | hlImm | idxImm | bc | de | abs => rfl

/-- The next state of an instruction that changes the buffer alone. -/
def State.memNext (s : State) (i : Instr) (m : Memory) : State := ({ s.begin i with mem := m } : State).endStep i

theorem memNext_frame (s : State) (i : Instr) (m : Memory) : s.memNext i m = { s.after i with mem := m } := rfl

theorem storeForm_answers (form : StoreForm) (s : State) :
    Answers (exec form.instr s) s [(form.address s, .write)]
      (s.memNext form.instr (s.mem.set (form.address s).toNat (form.value s))) := by
  rw [exec_storeForm]
  exact storeByte_answers _ _ _ s (begin_storeForm_address form _ s) (begin_storeForm_value form _ s)

/-- Settles O49: every form is one write, its address and its byte those of the state before the step. -/
theorem byteStores : Obligations.ByteStores := by
  intro form s
  exact ⟨encode_storeForm form, (storeForm_answers form s).completes rfl
    ⟨memNext_frame .., rfl, fun x => Memory.get_set ..⟩⟩

end Sys2Proof.Machine
end

section
/-! Loads and stores of a word at an absolute address (45_load.md R387 to R392). -/

namespace Sys2Proof.Machine

theorem begin_wordReg (i : Instr) (reg : WordReg) (s : State) : reg.get (s.begin i) = reg.get s := by
  cases reg with
  | hl => rfl
  | ss p => exact begin_pair i s p
  | idx x => exact begin_index i s x

theorem wordReg_get_put (reg : WordReg) (u : State) (v : Word) : reg.get (reg.put u v) = v := by
  cases reg with
  | hl => exact setHL_hl u v
  | ss p => exact (pair_setPair u p p v).trans (if_pos rfl)
  | idx x => exact (index_setIndex u x x v).trans (if_pos rfl)

/-! ### Loads -/

theorem encode_wordReg_load (reg : WordReg) (nn : Word) : encode (reg.load nn) = reg.loadBytes nn := by
  match reg with
  | .ss p => cases p <;> rfl
  | .hl | .idx .ix | .idx .iy => rfl

theorem exec_wordReg_load (reg : WordReg) (nn : Word) (s : State) :
    exec (reg.load nn) s = loadWord (reg.load nn) nn (fun t v => reg.put t v) s := by
  match reg with
  | .hl | .ss _ | .idx .ix | .idx .iy => rfl

/-- The step frame writes no 16-bit register of a load, so the write and the frame commute. -/
theorem wordReg_put_endStep (reg : WordReg) (i : Instr) (s : State) (v : Word) :
    (reg.put (s.begin i) v).endStep i = reg.put (s.after i) v := by
  match reg with
  | .ss p => cases p <;> rfl
  | .hl | .idx .ix | .idx .iy => rfl

theorem wordReg_load_answers (reg : WordReg) (nn : Word) (s : State) :
    Answers (exec (reg.load nn) s) s [(nn, .read), (nn + 1, .read)]
      (reg.put (s.after (reg.load nn)) (s.wordAt nn)) := by
  rw [exec_wordReg_load, ← wordReg_put_endStep, wordAt_eq_promote]
  exact loadWord_answers ..

/-- Settles O50: every form is one word read, the low byte first, into one 16-bit register. -/
theorem wordLoads : Obligations.WordLoads := by
  intro reg nn s
  exact ⟨encode_wordReg_load reg nn, (wordReg_load_answers reg nn s).completes rfl ⟨rfl, wordReg_get_put ..⟩⟩

/-! ### Stores -/

theorem encode_wordReg_store (reg : WordReg) (nn : Word) : encode (reg.store nn) = reg.storeBytes nn := by
  match reg with
  | .ss p => cases p <;> rfl
  | .hl | .idx .ix | .idx .iy => rfl

theorem exec_wordReg_store (reg : WordReg) (nn : Word) (s : State) :
    exec (reg.store nn) s = storeWord (reg.store nn) nn (fun t => reg.get t) s := by
  match reg with
  | .hl | .ss _ | .idx .ix | .idx .iy => rfl

theorem wordReg_store_answers (reg : WordReg) (nn : Word) (s : State) :
    Answers (exec (reg.store nn) s) s [(nn, .write), (nn + 1, .write)]
      (s.memNext (reg.store nn)
        ((s.mem.set nn.toNat (loByte (reg.get s))).set (nn + 1).toNat (hiByte (reg.get s)))) := by
  rw [exec_wordReg_store]
  exact storeWord_answers _ nn _ s (begin_wordReg _ reg s)

/-- Settles O51: every form is one word write, the low byte first. -/
theorem wordStores : Obligations.WordStores := by
  intro reg nn s
  dsimp only
  rw [ofNat_mod_eq_loByte, ofNat_div_eq_hiByte]
  exact ⟨encode_wordReg_store reg nn, (wordReg_store_answers reg nn s).completes rfl
    ⟨memNext_frame .., stores2_of_mem_eq rfl⟩⟩

end Sys2Proof.Machine
end

section
/-! PUSH and POP (45_load.md R395 to R399; 20_memory.md R90, R91). -/

namespace Sys2Proof.Machine

theorem begin_stackReg (i : Instr) (reg : StackReg) (s : State) : reg.get (s.begin i) = reg.get s := by
  match reg with
  | .qq p => cases p <;> rfl
  | .idx x => exact begin_index i s x

theorem stackReg_get_put (reg : StackReg) (u : State) (v : Word) : reg.get (reg.put u v) = v := by
  cases reg with
  | qq p => exact (pairQ_setPairQ u p p v).trans (if_pos rfl)
  | idx x => exact (index_setIndex u x x v).trans (if_pos rfl)

/-! ### PUSH -/

theorem encode_stackReg_push (reg : StackReg) : encode reg.push = reg.bytes 0xC5#8 := by
  match reg with
  | .qq p => cases p <;> rfl
  | .idx .ix | .idx .iy => rfl

theorem exec_stackReg_push (reg : StackReg) (s : State) :
    exec reg.push s = pushWord reg.push (fun t => reg.get t) s := by
  match reg with
  | .qq _ | .idx .ix | .idx .iy => rfl

/-- The next state of an instruction that pushes `v`, both writes inside the buffer. -/
def State.pushNext (s : State) (i : Instr) (v : Word) : State :=
  { s.after i with
    sp := s.sp - 2
    mem := (s.mem.set (s.sp - 1).toNat (hiByte v)).set (s.sp - 2).toNat (loByte v) }

theorem pushNext_pushed (s : State) (i : Instr) (v : Word) : pushed s (s.pushNext i v) v := by
  rw [pushed, ofNat_div_eq_hiByte, ofNat_mod_eq_loByte]
  exact ⟨rfl, stores2_of_mem_eq rfl⟩

theorem stackReg_push_answers (reg : StackReg) (s : State) :
    Answers (exec reg.push s) s s.pushWrites (s.pushNext reg.push (reg.get s)) := by
  rw [exec_stackReg_push, ← begin_stackReg reg.push reg s]
  exact pushWord_answers _ (fun t => reg.get t) s

/-- Settles O52: every form is one Push16 of the register, and SP and memory are all it writes. -/
theorem pushStoresTheRegister : Obligations.PushStoresTheRegister := by
  intro reg s
  exact ⟨encode_stackReg_push reg, (stackReg_push_answers reg s).completes rfl ⟨rfl, pushNext_pushed ..⟩⟩

/-! ### POP -/

theorem encode_stackReg_pop (reg : StackReg) : encode reg.pop = reg.bytes 0xC1#8 := by
  match reg with
  | .qq p => cases p <;> rfl
  | .idx .ix | .idx .iy => rfl

theorem exec_stackReg_pop (reg : StackReg) (s : State) :
    exec reg.pop s = popWord reg.pop (fun t v => reg.put t v) s := by
  match reg with
  | .qq p => cases p <;> rfl
  | .idx .ix | .idx .iy => rfl

/-- The next state of POP, both reads inside the buffer. -/
def StackReg.popNext (reg : StackReg) (s : State) : State :=
  { reg.put (s.after reg.pop) (s.wordAt s.sp) with sp := s.sp + 2 }

/-- SP is not a register POP loads, so the order of the two updates does not matter. -/
theorem popNext_eq_put (reg : StackReg) (s : State) :
    reg.popNext s = (reg.put { s.begin reg.pop with sp := s.sp + 2 } (s.wordAt s.sp)).endStep reg.pop := by
  match reg with
  | .qq p => cases p <;> rfl
  | .idx .ix | .idx .iy => rfl

@[simp] theorem endStep_stackReg (i : Instr) (reg : StackReg) (u : State) : reg.get (u.endStep i) = reg.get u := by
  match reg with
  | .qq p => cases p <;> rfl
  | .idx .ix | .idx .iy => rfl

theorem stackReg_get_popNext (reg : StackReg) (s : State) : reg.get (reg.popNext s) = s.wordAt s.sp := by
  rw [popNext_eq_put, endStep_stackReg, stackReg_get_put]

theorem stackReg_pop_answers (reg : StackReg) (s : State) :
    Answers (exec reg.pop s) s s.popReads (reg.popNext s) := by
  rw [exec_stackReg_pop, popNext_eq_put, wordAt_eq_promote]
  exact popWord_answers _ (fun t v => reg.put t v) s

/-- Settles O53: every form is one Pop16 into the register; AF takes both bytes whole. -/
theorem popLoadsTheRegister : Obligations.PopLoadsTheRegister := by
  intro reg s
  exact ⟨encode_stackReg_pop reg, (stackReg_pop_answers reg s).completes rfl ⟨rfl, stackReg_get_popNext reg s⟩⟩

end Sys2Proof.Machine
end

section
/-! The conditions of jumps, calls and returns (30_encoding.md R124, R125), and instructions that do nothing when their
condition fails. -/

namespace Sys2Proof.Machine

/-- The table of R124 read by field value: an even field wants its flag 0, an odd one wants it 1. -/
theorem conditionTrue_cond (cc : Cond) (f : Byte) : conditionTrue cc.code.toNat f = condHolds cc f := by
  match cc with
  | .nz | .nc | .po | .p => exact beq_false _
  | .z | .c | .pe | .m => exact beq_true _

theorem conditionTrue_jrCond (j : JrCond) (f : Byte) : conditionTrue j.code.toNat f = jrCondHolds j f := by
  match j with
  | .nz | .nc => exact beq_false _
  | .z | .c => exact beq_true _

/-- A frame whose body runs only under a condition the step frame does not change. -/
theorem frame_if {i : Instr} {s : State} {c : Bool} {p : State → Bool} (body : State → Exec State)
    (hp : p (s.begin i) = c) :
    frame i s (fun t => if p t then body t else .ok t) = if c then frame i s body else .next (s.after i) := by
  cases c with
  | true => simp only [frame, hp, if_true]
  | false =>
    simp only [frame, hp, Bool.false_eq_true, if_false]
    rfl

end Sys2Proof.Machine
end

section
/-! Jumps to an absolute address (46_jump_call_return.md R421, R422, R426, R427). -/

namespace Sys2Proof.Machine

theorem encode_jpCcNn (cc : Cond) (nn : Word) :
    encode (.jpCcNn cc nn) = [0xC2#8 + 8#8 * cc.code, loByte nn, hiByte nn] := by
  cases cc <;> rfl

theorem exec_jpCcNn (cc : Cond) (nn : Word) (s : State) :
    exec (.jpCcNn cc nn) s =
      .next { s.after (.jpCcNn cc nn) with pc := if condHolds cc s.f then nn else s.pcPlus 3 } := by
  show frameReg (.jpCcNn cc nn) s (fun t => if condHolds cc t.f then { t with pc := nn } else t) = _
  rw [frameReg_eq, State.begin_f]
  cases condHolds cc s.f <;> rfl

/-- Settles O55: an absolute jump writes PC and nothing else. -/
theorem absoluteJumps : Obligations.AbsoluteJumps := by
  intro s
  refine ⟨fun nn => ⟨rfl, rfl⟩, fun cc nn => ⟨encode_jpCcNn cc nn, ?_⟩, ⟨rfl, rfl⟩, ⟨rfl, rfl⟩, ⟨rfl, rfl⟩⟩
  rw [conditionTrue_cond]
  exact exec_jpCcNn cc nn s

end Sys2Proof.Machine
end

section
/-! Relative branches (46_jump_call_return.md R423, R424, R425). -/

namespace Sys2Proof.Machine

/-- PC after a relative branch with the displacement `e`. -/
def State.branchPc (s : State) (i : Instr) (e : Byte) (taken : Bool) : Word :=
  if taken then (s.begin i).relTarget e else s.pcPlus i.length

theorem pcPlus_toNat {s : State} (k : Nat) (hwf : s.mem.wf = true) :
    ((s.pcPlus k).toNat : Int) = (s.pc.toNat + k) % s.mem.size := by
  obtain ⟨hpos, hle⟩ := Memory.size_of_wf hwf
  exact wrap_toNat _ hpos hle

/-- The displacement is added to a `next` that is wrapped already; wrapping once comes to the same (R81). -/
theorem relTarget_begin_toNat {s : State} (i : Instr) (e : Byte) (hwf : s.mem.wf = true) :
    (((s.begin i).relTarget e).toNat : Int) = (s.pc.toNat + i.length + sext e) % s.mem.size := by
  obtain ⟨hpos, hle⟩ := Memory.size_of_wf hwf
  calc (((s.begin i).relTarget e).toNat : Int)
      = ((s.pcPlus i.length).toNat + sext e) % s.mem.size := wrap_toNat (s := s.begin i) _ hpos hle
    _ = (s.pc.toNat + i.length + sext e) % s.mem.size := by rw [pcPlus_toNat _ hwf, Int.emod_add_emod]

theorem branchPc_toNat {s : State} {i : Instr} (e : Byte) (taken : Bool) (hi : i.length = 2)
    (hwf : s.mem.wf = true) :
    ((s.branchPc i e taken).toNat : Int) = (s.pc.toNat + 2 + if taken then sext e else 0) % s.mem.size := by
  cases taken with
  | true => exact (relTarget_begin_toNat i e hwf).trans (by rw [hi]; rfl)
  | false => exact (pcPlus_toNat i.length hwf).trans (by rw [hi, if_neg Bool.false_ne_true, Int.add_zero]; rfl)

theorem encode_jrJE (j : JrCond) (e : Byte) : encode (.jrJE j e) = [0x20#8 + 8#8 * j.code, e] := by
  cases j <;> rfl

theorem exec_jrE (e : Byte) (s : State) :
    exec (.jrE e) s = .next { s.after (.jrE e) with pc := s.branchPc (.jrE e) e true } := rfl

theorem exec_jrJE (j : JrCond) (e : Byte) (s : State) :
    exec (.jrJE j e) s =
      .next { s.after (.jrJE j e) with pc := s.branchPc (.jrJE j e) e (jrCondHolds j s.f) } := by
  show frameReg (.jrJE j e) s (fun t => if jrCondHolds j t.f then { t with pc := t.relTarget e } else t) = _
  rw [frameReg_eq, State.begin_f]
  cases jrCondHolds j s.f <;> rfl

/-- DJNZ tests B after the decrement (R425). -/
theorem exec_djnzE (e : Byte) (s : State) :
    exec (.djnzE e) s =
      .next { s.after (.djnzE e) with b := s.b - 1, pc := s.branchPc (.djnzE e) e (decide (s.b - 1 ≠ 0)) } := by
  show frameReg (.djnzE e) s (fun t =>
    if t.b - 1 = 0 then { t with b := t.b - 1 }
    else { t with b := t.b - 1, pc := State.relTarget { t with b := t.b - 1 } e }) = _
  rw [frameReg_eq, State.begin_b]
  by_cases h : s.b - 1 = 0
  · rw [if_pos h, decide_eq_false (not_not_intro h)]
    rfl
  · rw [if_neg h, decide_eq_true h]
    rfl

theorem byte_sub_one_toNat (v : Byte) : (v - 1).toNat = (v.toNat + 255) % 256 := by
  rw [BitVec.toNat_sub, Nat.add_comm]
  rfl

theorem byte_sub_one_ne_zero_iff (v : Byte) : v - 1 ≠ 0 ↔ v.toNat ≠ 1 :=
  not_congr (sub_eq_zero.trans BitVec.toNat_inj.symm)

/-- Settles O56: a relative branch writes PC, which is `branchPc`; DJNZ also counts B down. -/
theorem relativeJumps : Obligations.RelativeJumps := by
  intro s e hwf
  dsimp only
  rw [← sext_eq_ite]
  refine ⟨⟨rfl, _, exec_jrE e s, rfl, branchPc_toNat e _ rfl hwf⟩, fun j => ?_,
    rfl, _, exec_djnzE e s, rfl, byte_sub_one_toNat s.b, ?_⟩
  · rw [conditionTrue_jrCond]
    exact ⟨encode_jrJE j e, _, exec_jrJE j e s, rfl, branchPc_toNat e _ rfl hwf⟩
  · rw [← decide_eq_decide.mpr (byte_sub_one_ne_zero_iff s.b)]
    exact branchPc_toNat e _ rfl hwf

end Sys2Proof.Machine
end

section
/-! CALL and RST (46_jump_call_return.md R430, R431, R440). -/

namespace Sys2Proof.Machine

/-- The next state of a call, both writes of the return address inside the buffer. -/
def State.callNext (s : State) (i : Instr) (target : Word) : State :=
  { s.pushNext i (s.pcPlus i.length) with pc := target }

theorem frame_call_answers (i : Instr) (s : State) (target : Word) :
    Answers (frame i s fun t => t.call target) s s.pushWrites (s.callNext i target) :=
  frame_push_answers i s (fun t => t.pc) fun u => { u with pc := target }

theorem callNext_frame (s : State) (i : Instr) (target : Word) :
    s.callNext i target =
      { s.after i with pc := target, sp := (s.callNext i target).sp, mem := (s.callNext i target).mem } := rfl

theorem callNext_pushed (s : State) (i : Instr) (target : Word) :
    pushed s (s.callNext i target) (s.pcPlus i.length) := pushNext_pushed s i _

theorem encode_callCcNn (cc : Cond) (nn : Word) :
    encode (.callCcNn cc nn) = [0xC4#8 + 8#8 * cc.code, loByte nn, hiByte nn] := by
  cases cc <;> rfl

theorem exec_callCcNn (cc : Cond) (nn : Word) (s : State) :
    exec (.callCcNn cc nn) s =
      if condHolds cc s.f then frame (.callCcNn cc nn) s fun t => t.call nn
      else .next (s.after (.callCcNn cc nn)) :=
  frame_if (p := fun t => condHolds cc t.f) (fun t => t.call nn) rfl

theorem encode_rstT (k : BitVec 3) : encode (.rstT k) = [0xC7#8 + 8#8 * k.zeroExtend 8] :=
  congrArg (fun c => [c]) (or_num3AtY rfl k)

theorem exec_rstT (k : BitVec 3) (s : State) :
    exec (.rstT k) s = frame (.rstT k) s fun t => t.call (BitVec.ofNat 16 (8 * k.toNat)) := by
  rw [Nat.mul_comm]
  rfl

/-- Settles O57: the three forms are one call, which pushes the `next` of the step frame. -/
theorem callsPushTheReturnAddress : Obligations.CallsPushTheReturnAddress := by
  intro s
  refine ⟨fun nn => ⟨rfl, ?_⟩, fun cc nn => ⟨encode_callCcNn cc nn, ?_⟩, fun k => ⟨encode_rstT k, ?_⟩⟩
  · exact (frame_call_answers _ s nn).completes rfl ⟨callNext_frame .., callNext_pushed ..⟩
  · rw [conditionTrue_cond]
    have hexec := exec_callCcNn cc nn s
    split
    · next htaken =>
      exact (frame_call_answers _ s nn).completes (hexec.trans (if_pos htaken))
        ⟨callNext_frame .., callNext_pushed ..⟩
    · next hnot => exact hexec.trans (if_neg hnot)
  · exact (frame_call_answers _ s _).completes (exec_rstT k s) ⟨callNext_frame .., callNext_pushed ..⟩

end Sys2Proof.Machine
end

section
/-! RET, RET cc, RETI and RETN (46_jump_call_return.md R434 to R437). -/

namespace Sys2Proof.Machine

/-- The next state of a return, both reads of the return address inside the buffer. -/
def State.returnNext (s : State) (i : Instr) : State :=
  { s.after i with pc := s.wordAt s.sp, sp := s.sp + 2 }

theorem frame_returnFromCall_answers (i : Instr) (s : State) :
    Answers (frame i s State.returnFromCall) s s.popReads (s.returnNext i) := by
  rw [State.returnNext, wordAt_eq_promote]
  exact frame_pop_answers i s fun v u => { u with pc := v }

theorem frame_returnFromHandler_answers (i : Instr) (s : State) :
    Answers (frame i s State.returnFromHandler) s s.popReads { s.returnNext i with iff1 := s.iff2 } := by
  rw [State.returnNext, wordAt_eq_promote]
  exact frame_pop_answers i s fun v u => { u with pc := v, iff1 := u.iff2 }

theorem encode_retCc (cc : Cond) : encode (.retCc cc) = [0xC0#8 + 8#8 * cc.code] := by
  cases cc <;> rfl

theorem exec_retCc (cc : Cond) (s : State) :
    exec (.retCc cc) s =
      if condHolds cc s.f then frame (.retCc cc) s State.returnFromCall else .next (s.after (.retCc cc)) :=
  frame_if (p := fun t => condHolds cc t.f) State.returnFromCall rfl

/-- Settles O58: every return is one Pop16 into PC; those from a handler also copy IFF2 to IFF1. -/
theorem returnsPopThePc : Obligations.ReturnsPopThePc := by
  intro s
  refine ⟨⟨rfl, ?_⟩, fun cc => ⟨encode_retCc cc, ?_⟩, ⟨rfl, ?_⟩, ⟨rfl, ?_⟩⟩
  · exact (frame_returnFromCall_answers _ s).completes rfl rfl
  · rw [conditionTrue_cond]
    have hexec := exec_retCc cc s
    split
    · next htaken => exact (frame_returnFromCall_answers _ s).completes (hexec.trans (if_pos htaken)) rfl
    · next hnot => exact hexec.trans (if_neg hnot)
  · exact (frame_returnFromHandler_answers _ s).completes rfl rfl
  · exact (frame_returnFromHandler_answers _ s).completes rfl rfl

end Sys2Proof.Machine
end

section
/-! CPU control and the halted idle step (47_cpu_control.md R460 to R468; 60_exceptions.md R510). -/

namespace Sys2Proof.Machine

/-! ### The priority below RESET and NMI -/

theorem alive_of_halted {s : State} (h : s.run = .halted) : s.alive = true := by
  simp [State.alive, h]

theorem nmiNext_of_alive {s : State} (halive : s.alive = true) (hreset : s.nextInputs.reset = false) :
    s.nmiNext = (s.latchNmi s.nextInputs).nmiPending := by
  simp [State.nmiNext, State.latchNmi, halive, hreset]

theorem intNext_of_alive {s : State} (halive : s.alive = true) (hreset : s.nextInputs.reset = false)
    (hnmi : s.nmiNext = false) : s.intNext = s.acceptsInt s.nextInputs := by
  rw [nmiNext_of_alive halive hreset, State.latchNmi, Bool.or_eq_false_iff] at hnmi
  obtain ⟨hpending, hedge⟩ := hnmi
  simp [State.intNext, State.acceptsInt, halive, hreset, hpending, hedge]

/-- A core that is alive takes RESET before NMI, and both before all else. -/
theorem stepWith_of_alive {s : State} (inp : Inputs) (halive : s.alive = true) :
    stepWith inp s =
      if inp.reset then .next (s.applyReset.report .reset)
      else if (s.latchNmi inp).nmiPending then .next ((s.respond (s.latchNmi inp).nmiResponse).report .nmiTaken)
      else stepBelowNmi inp s := by
  cases hrun : s.run with
  | faulted record => simp [State.alive, hrun] at halive
  | running => rw [stepWith, hrun]
  | halted => rw [stepWith, hrun]

theorem step_eq_stepBelowNmi {s : State} (halive : s.alive = true) (hreset : s.nextInputs.reset = false)
    (hnmi : s.nmiNext = false) : step s = stepBelowNmi s.nextInputs s.advanceInputs := by
  have hlatch : (s.advanceInputs.latchNmi s.nextInputs).nmiPending = false :=
    (nmiNext_of_alive halive hreset).symm.trans hnmi
  have halive' : s.advanceInputs.alive = true := halive
  rw [step, stepWith_of_alive _ halive', if_neg (Bool.eq_false_iff.mp hreset),
    if_neg (Bool.eq_false_iff.mp hlatch)]

/-! ### The halted idle step -/

theorem stepBelowNmi_of_halted {s : State} {inp : Inputs} (hrun : s.run = .halted)
    (hint : s.acceptsInt inp = false) : stepBelowNmi inp s = .next (s.idleStep.report .idle) := by
  simp [stepBelowNmi, hint, hrun]

theorem report_outcome_of_halted {s : State} (hrun : s.run = .halted) (normal : StepOutcome) :
    (s.report normal).outcome = some normal := by
  simp [State.report, hrun]

/-- The halted core idles when nothing wakes it (R461). -/
theorem step_of_halted {s : State} (hrun : s.run = .halted) (hreset : s.nextInputs.reset = false)
    (hnmi : s.nmiNext = false) (hint : s.intNext = false) :
    step s = .next (s.advanceInputs.idleStep.report .idle) := by
  have halive := alive_of_halted hrun
  have hrefused : s.advanceInputs.acceptsInt s.nextInputs = false :=
    (intNext_of_alive halive hreset hnmi).symm.trans hint
  rw [step_eq_stepBelowNmi halive hreset hnmi]
  exact stepBelowNmi_of_halted hrun hrefused

/-- Settles O59: each instruction writes its own fields in the step frame, which the model computes for every state;
the idle step is what the priority leaves a halted core. -/
theorem cpuControlAndIdling : Obligations.CpuControlAndIdling := by
  intro s
  refine ⟨⟨rfl, rfl⟩, ⟨rfl, rfl⟩, ⟨rfl, rfl⟩, ⟨rfl, rfl⟩, ⟨rfl, rfl⟩, ⟨rfl, rfl⟩, ⟨rfl, rfl⟩, ?_⟩
  intro hrun hreset hnmi hint
  exact ⟨_, step_of_halted hrun hreset hnmi hint, report_outcome_of_halted hrun .idle, rfl⟩

end Sys2Proof.Machine
end

section
/-! Input and output (48_io.md R480 to R492). -/

namespace Sys2Proof.Machine

/-- The register field at bits 5:3 of an opcode byte, as a sum. -/
theorem encode_inRC (r : Reg8) : encode (.inRC r) = [0xED#8, 0x40#8 + 8#8 * r.code] := by
  cases r <;> rfl

theorem encode_outCR (r : Reg8) : encode (.outCR r) = [0xED#8, 0x41#8 + 8#8 * r.code] := by
  cases r <;> rfl

/-- An instruction that R480 refuses changes run_state alone, to the record with the bytes of its encoding. -/
theorem exec_of_raiseIo {i : Instr} {s : State} {bytes : List Byte} (hexec : exec i s = raiseIo i s)
    (hbytes : encode i = bytes) :
    exec i s = .next { s with run := .faulted (.unimplemented .ioNotInCore s.pc bytes) } := by
  rw [hexec, raiseIo_eq, hbytes, State.raise]

/-- Settles O60: each of the twelve is `raiseIo` of itself, and its encoding is the bytes given. -/
theorem ioInstructionsAreUnimplemented : Obligations.IoInstructionsAreUnimplemented := by
  intro s
  refine ⟨fun n => ⟨?inAN, ?outNA⟩, fun r => ⟨?inRC, ?outCR⟩, ?ini, ?ind, ?inir, ?indr, ?outi, ?outd, ?otir, ?otdr⟩
  case inRC => exact exec_of_raiseIo rfl (encode_inRC r)
  case outCR => exact exec_of_raiseIo rfl (encode_outCR r)
  all_goals exact exec_of_raiseIo rfl rfl

end Sys2Proof.Machine
end

section
/-! What every instruction may write: the special registers as a function of the state before it, and the limits on
PC, F and memory (10_state.md R38, R41, R54 to R61; 30_encoding.md R113). -/

namespace Sys2Proof.Machine

/-! ### The special part of the state -/

/-- `s` with every field blanked that an ordinary instruction may write: the main registers, IX, IY, SP, PC, memory. -/
def State.special (s : State) : State :=
  { s with
    a := 0, f := 0, b := 0, c := 0, d := 0, e := 0, h := 0, l := 0, ix := 0, iy := 0, sp := 0, pc := 0
    mem := { size := 0, cells := [] } }

/-- The special part of the state after the step frame alone. -/
def State.frameSpecial (s : State) (i : Instr) : State :=
  { s with
    a := 0, f := 0, b := 0, c := 0, d := 0, e := 0, h := 0, l := 0, ix := 0, iy := 0, sp := 0, pc := 0
    mem := { size := 0, cells := [] }, r := incR i.m1 s.r, eiShadow := i.isEi }

/-- The special part of the state after `i` completes: that of the step frame but for the instructions named. -/
def State.specialAfter (s : State) (i : Instr) : State :=
  match i with
  | .exAfAf => { s.frameSpecial i with a' := s.a, f' := s.f }
  | .exx => { s.frameSpecial i with b' := s.b, c' := s.c, d' := s.d, e' := s.e, h' := s.h, l' := s.l }
  | .ldIA => { s.frameSpecial i with i := s.a }
  | .ldRA => { s.frameSpecial i with r := s.a }
  | .reti | .retn => { s.frameSpecial i with iff1 := s.iff2 }
  | .halt => { s.frameSpecial i with run := .halted }
  | .di => { s.frameSpecial i with iff1 := false, iff2 := false }
  | .ei => { s.frameSpecial i with iff1 := true, iff2 := true }
  | .im0 => { s.frameSpecial i with im := .im0 }
  | .im1 => { s.frameSpecial i with im := .im1 }
  | .im2 => { s.frameSpecial i with im := .im2 }
  | _ => s.frameSpecial i

/-- What is true of the next state `t` of every instruction `i` that completes from `s`. -/
structure Keeps (i : Instr) (s t : State) : Prop where
  special : t.special = s.specialAfter i
  size : t.mem.size = s.mem.size
  wf : s.mem.wf = true → t.mem.wf = true
  pc : writesPc i = false → t.pc = s.pcPlus i.length
  unused : i.wf = true → i ≠ .popAf → i ≠ .exAfAf → sameUnused s.f t.f

/-- A record a step from `s` may raise: a MemoryFault names an address outside the buffer, and PC0. -/
def FaultOf (s : State) (record : Fault) : Prop :=
  ∀ addr kind pc0, record = .memoryFault addr kind pc0 → s.mem.size ≤ addr.toNat ∧ pc0 = s.pc

/-- What an instruction answers: it completes within `Keeps`, or it raises a fault. -/
inductive Effect (i : Instr) (s : State) : Outcome → Prop
  | completes {t : State} (h : Keeps i s t) : Effect i s (.next t)
  | faults {record : Fault} (h : FaultOf s record) : Effect i s (.next (s.raise record))

/-! ### Accesses -/

theorem firstOutside_eq_none_iff {s : State} {l : List (Word × AccessKind)} :
    s.firstOutside l = none ↔ ∀ x ∈ l, x.1.toNat < s.mem.size := by
  simp [State.firstOutside]

theorem firstOutside_eq_some {s : State} {l : List (Word × AccessKind)} {a : Word} {k : AccessKind}
    (h : s.firstOutside l = some (a, k)) : s.mem.size ≤ a.toNat := by
  simpa using List.find?_some h

theorem faultOf_memoryFault {s : State} {a : Word} (k : AccessKind) (h : s.mem.size ≤ a.toNat) :
    FaultOf s (.memoryFault a k s.pc) := by
  rintro addr kind pc0 ⟨⟩
  exact ⟨h, rfl⟩

/-- What an operation answers: its next state with every access inside the buffer, or the fault of one that is not. -/
theorem Answers.cases {o : Outcome} {s t : State} {l : List (Word × AccessKind)} (h : Answers o s l t) :
    (o = .next t ∧ ∀ x ∈ l, x.1.toNat < s.mem.size) ∨
      ∃ a k, s.mem.size ≤ a.toNat ∧ o = .next (s.raise (.memoryFault a k s.pc)) := by
  unfold Answers at h
  split at h
  · next hnone => exact .inl ⟨h, firstOutside_eq_none_iff.mp hnone⟩
  · next a k hsome => exact .inr ⟨a, k, firstOutside_eq_some hsome, h⟩

theorem Answers.effect {i : Instr} {o : Outcome} {s t : State} {l : List (Word × AccessKind)} (h : Answers o s l t)
    (hk : (∀ x ∈ l, x.1.toNat < s.mem.size) → Keeps i s t) : Effect i s o := by
  obtain ⟨rfl, hin⟩ | ⟨a, k, hout, rfl⟩ := h.cases
  · exact .completes (hk hin)
  · exact .faults (faultOf_memoryFault k hout)

/-! ### Ordinary updates -/

/-- `u` differs from `t` only in fields an ordinary instruction may write, and its memory is as well formed. -/
structure Ordinary (t u : State) : Prop where
  special : u.special = t.special
  size : u.mem.size = t.mem.size
  wf : t.mem.wf = true → u.mem.wf = true

theorem Ordinary.of_mem {t u : State} (hs : u.special = t.special) (hm : u.mem = t.mem) : Ordinary t u :=
  ⟨hs, by rw [hm], fun h => hm ▸ h⟩

theorem Ordinary.trans {t u v : State} (h : Ordinary t u) (h' : Ordinary u v) : Ordinary t v :=
  ⟨h'.special.trans h.special, h'.size.trans h.size, fun hw => h'.wf (h.wf hw)⟩

theorem Ordinary.congr {t u v : State} (h : Ordinary t u) (hs : v.special = u.special) (hm : v.mem = u.mem) :
    Ordinary t v := h.trans (.of_mem hs hm)

theorem ordinary_setPairQ (t : State) (p : PairQ) (v : Word) : Ordinary t (t.setPairQ p v) := by
  cases p <;> exact .of_mem rfl rfl

theorem ordinary_flags (t : State) (e : FlagEffect) : Ordinary t (t.flags e) := .of_mem rfl rfl

/-- An ordinary update that leaves PC and F alone: of registers, or of bytes of memory. -/
structure DataUpdate (t u : State) : Prop extends Ordinary t u where
  pc : u.pc = t.pc
  f : u.f = t.f

theorem dataUpdate_setReg8 (t : State) (r : Reg8) (v : Byte) : DataUpdate t (t.setReg8 r v) := by
  cases r <;> exact ⟨.of_mem rfl rfl, rfl, rfl⟩

theorem dataUpdate_setPair (t : State) (p : Pair) (v : Word) : DataUpdate t (t.setPair p v) := by
  cases p <;> exact ⟨.of_mem rfl rfl, rfl, rfl⟩

theorem dataUpdate_setIndex (t : State) (x : IndexReg) (v : Word) : DataUpdate t (t.setIndex x v) := by
  cases x <;> exact ⟨.of_mem rfl rfl, rfl, rfl⟩

theorem dataUpdate_set (t : State) {a : Word} (v : Byte) (ha : a.toNat < t.mem.size) :
    DataUpdate t { t with mem := t.mem.set a.toNat v } :=
  ⟨⟨rfl, rfl, Memory.wf_set v ha⟩, rfl, rfl⟩

theorem dataUpdate_set_set (t : State) {a b : Word} (v w : Byte) (ha : a.toNat < t.mem.size)
    (hb : b.toNat < t.mem.size) :
    DataUpdate t { t with mem := (t.mem.set a.toNat v).set b.toNat w } :=
  ⟨⟨rfl, rfl, fun h => Memory.wf_set w hb (Memory.wf_set v ha h)⟩, rfl, rfl⟩

theorem DataUpdate.trans {t u v : State} (h : DataUpdate t u) (h' : DataUpdate u v) : DataUpdate t v :=
  ⟨h.toOrdinary.trans h'.toOrdinary, h'.pc.trans h.pc, h'.f.trans h.f⟩

theorem sameUnused_of_eq {f g : Byte} (h : g = f) : sameUnused f g := h ▸ ⟨rfl, rfl⟩

/-- The body of an ordinary instruction in the step frame. -/
theorem Ordinary.keeps {i : Instr} {s u : State} (h : Ordinary (s.begin i) u)
    (hi : s.specialAfter i = s.frameSpecial i) (hpc : writesPc i = false → u.pc = s.pcPlus i.length)
    (hf : i.wf = true → i ≠ .popAf → i ≠ .exAfAf → sameUnused s.f u.f) : Keeps i s (u.endStep i) where
  special := (congrArg (fun x => x.endStep i) h.special).trans hi.symm
  size := h.size
  wf := h.wf
  pc := hpc
  unused := hf

theorem DataUpdate.keeps {i : Instr} {s u : State} (h : DataUpdate (s.begin i) u)
    (hi : s.specialAfter i = s.frameSpecial i) : Keeps i s (u.endStep i) :=
  h.toOrdinary.keeps hi (fun _ => h.pc) fun _ _ _ => sameUnused_of_eq h.f

end Sys2Proof.Machine
end

section
/-! Every instruction completes within `Keeps` or raises a fault: once per shape of meaning. -/

namespace Sys2Proof.Machine

/-! ### The shapes that touch no memory but to read it -/

section Shapes
variable {i : Instr} {s : State}

theorem aluUpdate_ordinary (op : AluOp) (t : State) (v : Byte) : Ordinary t (op.update t v) := by
  cases op <;> exact .of_mem rfl rfl

theorem aluUpdate_pc (op : AluOp) (t : State) (v : Byte) : (op.update t v).pc = t.pc := by cases op <;> rfl

theorem aluUpdate_sameUnused (op : AluOp) (t : State) (v : Byte) : sameUnused t.f (op.update t v).f := by
  cases op <;> exact sameUnused_setFlags ..

theorem aluUpdate_keeps (op : AluOp) (v : Byte) (hi : s.specialAfter i = s.frameSpecial i) :
    Keeps i s ((op.update (s.begin i) v).endStep i) :=
  (aluUpdate_ordinary op _ v).keeps hi (fun _ => aluUpdate_pc op _ v) fun _ _ _ => aluUpdate_sameUnused op _ v

theorem aluLoc_effect (op : AluOp) {o : Operand8} (hi : s.specialAfter i = s.frameSpecial i) :
    Effect i s (aluLoc i o op.update s) :=
  (aluLoc_answers i o op.update s).effect fun _ => aluUpdate_keeps op _ hi

theorem testLoc_effect {b : BitVec 3} {o : Operand8} (hi : s.specialAfter i = s.frameSpecial i) :
    Effect i s (testLoc i b o s) :=
  (testLoc_answers i b o s).effect fun _ =>
    Ordinary.keeps (.of_mem rfl rfl) hi (fun _ => rfl) fun _ _ _ => sameUnused_setFlags ..

theorem loadReg_effect {r : Reg8} {ea : State → Word} (hi : s.specialAfter i = s.frameSpecial i)
    (hea : ea (s.begin i) = ea s) : Effect i s (loadReg i r ea s) :=
  (loadReg_answers i r ea s hea).effect fun _ => (dataUpdate_setReg8 _ r _).keeps hi

/-! ### The shapes that write memory -/

theorem dataUpdate_writeOperand {o : Operand8} (v : Byte)
    (h : ∀ x ∈ s.operandReadsWrites o, x.1.toNat < s.mem.size) :
    DataUpdate (s.begin i) ((s.begin i).writeOperand o v) := by
  cases o with
  | reg r => exact dataUpdate_setReg8 _ r v
  | hl => exact dataUpdate_set (s.begin i) v (h (s.hl, .read) (List.mem_cons_self ..))
  | idx x d =>
    refine dataUpdate_set (s.begin i) v ?_
    rw [begin_ea]
    exact h (s.ea x d, .read) (List.mem_cons_self ..)

theorem modifyLoc_effect {o : Operand8} {g : Byte → Byte → Byte × FlagEffect}
    (hi : s.specialAfter i = s.frameSpecial i) : Effect i s (modifyLoc i o g s) := by
  refine (modifyLoc_answers i o g s).effect fun hin => ?_
  have hwrite := dataUpdate_writeOperand (i := i) (g s.f (s.operandValue o)).1 hin
  refine (hwrite.toOrdinary.trans (ordinary_flags ..)).keeps hi (fun _ => hwrite.pc) fun _ _ _ => ?_
  rw [State.flags_f, hwrite.f]
  exact sameUnused_setFlags ..

theorem rewriteLoc_effect {o : Operand8} {g : Byte → Byte} (hi : s.specialAfter i = s.frameSpecial i) :
    Effect i s (rewriteLoc i o g s) :=
  (rewriteLoc_answers i o g s).effect fun hin => (dataUpdate_writeOperand _ hin).keeps hi

theorem storeByte_effect {ea : State → Word} {v : State → Byte} (hi : s.specialAfter i = s.frameSpecial i)
    (hea : ea (s.begin i) = ea s) (hv : v (s.begin i) = v s) : Effect i s (storeByte i ea v s) :=
  (storeByte_answers i ea v s hea hv).effect fun hin =>
    (dataUpdate_set (s.begin i) _ (hin (ea s, .write) (List.mem_cons_self ..))).keeps hi

/-- The two accesses of a word or of the stack are both inside. -/
theorem inside_pair {a b : Word} {j k : AccessKind} (h : ∀ x ∈ [(a, j), (b, k)], x.1.toNat < s.mem.size) :
    a.toNat < s.mem.size ∧ b.toNat < s.mem.size := by simpa using h

theorem storeWord_effect {nn : Word} {v : State → Word} (hi : s.specialAfter i = s.frameSpecial i)
    (hv : v (s.begin i) = v s) : Effect i s (storeWord i nn v s) := by
  refine (storeWord_answers i nn v s hv).effect fun hin => ?_
  obtain ⟨hlow, hhigh⟩ := inside_pair hin
  exact (dataUpdate_set_set (s.begin i) _ _ hlow hhigh).keeps hi

/-- What a push leaves, before any further update. -/
theorem dataUpdate_push {v : Word} (hin : ∀ x ∈ s.pushWrites, x.1.toNat < s.mem.size) :
    DataUpdate (s.begin i) { s.begin i with
      sp := s.sp - 2
      mem := (s.mem.set (s.sp - 1).toNat (hiByte v)).set (s.sp - 2).toNat (loByte v) } := by
  obtain ⟨hhigh, hlow⟩ := inside_pair hin
  exact (dataUpdate_set_set (s.begin i) _ _ hhigh hlow).trans ⟨.of_mem rfl rfl, rfl, rfl⟩

theorem pushWord_effect {v : State → Word} (hi : s.specialAfter i = s.frameSpecial i) :
    Effect i s (pushWord i v s) :=
  (pushWord_answers i v s).effect fun hin => (dataUpdate_push hin).keeps hi

theorem call_effect {target : Word} (hi : s.specialAfter i = s.frameSpecial i) (hpc : writesPc i = true) :
    Effect i s (frame i s fun t => t.call target) :=
  (frame_call_answers i s target).effect fun hin =>
    Ordinary.keeps (u := { (s.begin i) with
        pc := target, sp := s.sp - 2
        mem := (s.mem.set (s.sp - 1).toNat (hiByte (s.pcPlus i.length))).set (s.sp - 2).toNat
          (loByte (s.pcPlus i.length)) })
      ((dataUpdate_push hin).toOrdinary.congr rfl rfl) hi (fun h => absurd h (by simp [hpc])) fun _ _ _ => ⟨rfl, rfl⟩

/-- EX (SP): both bytes are written where they were read. -/
theorem exchangeTop_effect {get : State → Word} {put : State → Word → State}
    (hi : s.specialAfter i = s.frameSpecial i) (hget : get (s.begin i) = get s)
    (hput : ∀ t v, DataUpdate t (put t v)) : Effect i s (exchangeTop i get put s) := by
  refine (exchangeTop_answers i get put s hget).effect fun hin => ?_
  have hlow : s.sp.toNat < s.mem.size := hin (s.sp, .read) (by simp)
  have hhigh : (s.sp + 1).toNat < s.mem.size := hin (s.sp + 1, .read) (by simp)
  exact ((dataUpdate_set_set (s.begin i) _ _ hlow hhigh).trans (hput _ _)).keeps hi

/-! ### Loads of words and the stack -/

theorem loadWord_effect {nn : Word} {put : State → Word → State} (hi : s.specialAfter i = s.frameSpecial i)
    (hput : ∀ t v, DataUpdate t (put t v)) : Effect i s (loadWord i nn put s) :=
  (loadWord_answers i nn put s).effect fun _ => (hput _ _).keeps hi

theorem popWord_effect {put : State → Word → State} (hi : s.specialAfter i = s.frameSpecial i)
    (hput : ∀ t v, Ordinary t (put t v) ∧ (put t v).pc = t.pc)
    (hf : i.wf = true → i ≠ .popAf → ∀ t v, (put t v).f = t.f) : Effect i s (popWord i put s) := by
  refine (popWord_answers i put s).effect fun _ => ?_
  obtain ⟨hord, hpc⟩ := hput { s.begin i with sp := s.sp + 2 }
    (promote (s.mem.get (s.sp + 1).toNat) (s.mem.get s.sp.toNat))
  have hsp : Ordinary (s.begin i) { s.begin i with sp := s.sp + 2 } := .of_mem rfl rfl
  exact (hsp.trans hord).keeps hi (fun _ => hpc) fun hw hne _ =>
    sameUnused_of_eq (hf hw hne _ _)

theorem after_keeps (hi : s.specialAfter i = s.frameSpecial i) : Keeps i s (s.after i) :=
  (Ordinary.of_mem rfl rfl).keeps (u := s.begin i) hi (fun _ => rfl) fun _ _ _ => ⟨rfl, rfl⟩

theorem returnFromCall_effect (hi : s.specialAfter i = s.frameSpecial i) (hpc : writesPc i = true) :
    Effect i s (frame i s State.returnFromCall) :=
  (frame_returnFromCall_answers i s).effect fun _ =>
    Ordinary.keeps (u := { s.begin i with pc := s.wordAt s.sp, sp := s.sp + 2 }) (.of_mem rfl rfl) hi
      (fun h => absurd h (by simp [hpc])) fun _ _ _ => ⟨rfl, rfl⟩

/-- RETI and RETN. -/
theorem returnFromHandler_effect (hi : s.specialAfter i = { s.frameSpecial i with iff1 := s.iff2 })
    (hpc : writesPc i = true) : Effect i s (frame i s State.returnFromHandler) :=
  (frame_returnFromHandler_answers i s).effect fun _ =>
    { special := hi.symm
      size := rfl
      wf := id
      pc := fun h => absurd h (by simp [hpc])
      unused := fun _ _ _ => ⟨rfl, rfl⟩ }

/-! ### The digit rotates and the block instructions -/

theorem digitInstr_effect (left : Bool) (s : State) : Effect (digitInstr left) s (exec (digitInstr left) s) :=
  (digitInstr_answers left s).effect fun hin =>
    { special := by cases left <;> rfl
      size := rfl
      wf := Memory.wf_set _ (hin (s.hl, .read) (List.mem_cons_self ..))
      pc := fun _ => rfl
      unused := fun _ _ _ => sameUnused_setFlags .. }

theorem transferInstr_effect (up again : Bool) (s : State) :
    Effect (transferInstr up again) s (exec (transferInstr up again) s) :=
  (transferInstr_answers up again s).effect fun hin =>
    { special := by cases up <;> cases again <;> rfl
      size := rfl
      wf := Memory.wf_set _ (hin (s.de, .write) (by simp))
      pc := by
        rw [transferNext_pc, transferInstr_length]
        cases again with
        | true => cases up <;> exact nofun
        | false => exact fun _ => rfl
      unused := fun _ _ _ => sameUnused_setFlags .. }

theorem searchInstr_effect (up again : Bool) (s : State) :
    Effect (searchInstr up again) s (exec (searchInstr up again) s) :=
  (searchInstr_answers up again s).effect fun _ =>
    { special := by cases up <;> cases again <;> rfl
      size := rfl
      wf := id
      pc := by
        rw [searchNext_pc, searchInstr_length]
        cases again with
        | true => cases up <;> exact nofun
        | false => exact fun _ => rfl
      unused := fun _ _ _ => sameUnused_setFlags .. }

end Shapes

end Sys2Proof.Machine
end

section
/-! What every instruction answers. -/

namespace Sys2Proof.Machine

theorem dataUpdate_setHL (t : State) (v : Word) : DataUpdate t (t.setHL v) := dataUpdate_setPair t .hl v

theorem dataUpdate_wordReg_put (reg : WordReg) (t : State) (v : Word) : DataUpdate t (reg.put t v) := by
  cases reg with
  | hl => exact dataUpdate_setHL t v
  | ss p => exact dataUpdate_setPair t p v
  | idx x => exact dataUpdate_setIndex t x v

theorem dataUpdate_topReg_put (reg : TopReg) (t : State) (v : Word) : DataUpdate t (reg.put t v) := by
  cases reg with
  | hl => exact dataUpdate_setHL t v
  | idx x => exact dataUpdate_setIndex t x v

theorem wordReg_load_effect (reg : WordReg) (nn : Word) (s : State) :
    Effect (reg.load nn) s (exec (reg.load nn) s) := by
  have hi : s.specialAfter (reg.load nn) = s.frameSpecial (reg.load nn) := by
    match reg with
    | .hl | .ss _ | .idx .ix | .idx .iy => rfl
  rw [exec_wordReg_load]
  exact loadWord_effect hi (dataUpdate_wordReg_put reg)

theorem wordReg_store_effect (reg : WordReg) (nn : Word) (s : State) :
    Effect (reg.store nn) s (exec (reg.store nn) s) := by
  have hi : s.specialAfter (reg.store nn) = s.frameSpecial (reg.store nn) := by
    match reg with
    | .hl | .ss _ | .idx .ix | .idx .iy => rfl
  rw [exec_wordReg_store]
  exact storeWord_effect hi (begin_wordReg _ reg s)

theorem topReg_effect (reg : TopReg) (s : State) : Effect reg.instr s (exec reg.instr s) := by
  have hi : s.specialAfter reg.instr = s.frameSpecial reg.instr := by
    match reg with
    | .hl | .idx .ix | .idx .iy => rfl
  rw [exec_topReg]
  exact exchangeTop_effect hi (begin_topReg _ reg s) (dataUpdate_topReg_put reg)

theorem hlNext_keeps {i : Instr} {s : State} {v : Word} {e : FlagEffect}
    (hi : s.specialAfter i = s.frameSpecial i) : Keeps i s (s.hlNext i v e) :=
  ((dataUpdate_setHL _ v).toOrdinary.trans (ordinary_flags _ e)).keeps hi (fun _ => rfl) fun _ _ _ =>
    sameUnused_setFlags s.f e

theorem addIndexInstr_effect (x : IndexReg) (p : PairX) (s : State) :
    Effect (addIndexInstr x p) s (exec (addIndexInstr x p) s) := by
  have hi : s.specialAfter (addIndexInstr x p) = s.frameSpecial (addIndexInstr x p) := by cases x <;> rfl
  rw [exec_addIndexInstr]
  have hset (v : Word) := dataUpdate_setIndex (s.begin (addIndexInstr x p)) x v
  refine .completes (((hset _).toOrdinary.trans (ordinary_flags _ _)).keeps hi (fun _ => (hset _).pc) fun _ _ _ => ?_)
  rw [State.flags_f, (hset _).f]
  exact sameUnused_setFlags ..

theorem DataUpdate.effect {i : Instr} {s u : State} (h : DataUpdate (s.begin i) u)
    (hi : s.specialAfter i = s.frameSpecial i) : Effect i s (.next (u.endStep i)) :=
  .completes (h.keeps hi)

theorem exchange_effects (s : State) :
    Effect .exDeHl s (exec .exDeHl s) ∧ Effect .exx s (exec .exx s) ∧ Effect .exAfAf s (exec .exAfAf s) := by
  obtain ⟨⟨-, hde⟩, ⟨-, hxx⟩, -, haf⟩ := exchangesSwapRegisters s
  rw [hde, hxx, haf]
  exact ⟨.completes ⟨rfl, rfl, id, fun _ => rfl, fun _ _ _ => ⟨rfl, rfl⟩⟩,
    .completes ⟨rfl, rfl, id, fun _ => rfl, fun _ _ _ => ⟨rfl, rfl⟩⟩,
    .completes ⟨rfl, rfl, id, fun _ => rfl, fun _ _ h => absurd rfl h⟩⟩

theorem popQq_effect (qq : PairQ) (s : State) : Effect (.popQq qq) s (exec (.popQq qq) s) := by
  refine popWord_effect (i := .popQq qq) rfl (fun t v => ⟨ordinary_setPairQ t qq v, by simp⟩) fun hwf _ t v => ?_
  cases qq with
  | bc | de | hl => rfl
  | af => exact absurd hwf (by decide)

theorem stackReg_put_keepsPc (reg : StackReg) (t : State) (v : Word) :
    Ordinary t (reg.put t v) ∧ (reg.put t v).pc = t.pc := by
  cases reg with
  | qq p => exact ⟨ordinary_setPairQ t p v, State.setPairQ_pc t p v⟩
  | idx x => exact ⟨(dataUpdate_setIndex t x v).toOrdinary, State.setIndex_pc t x v⟩

/-- Of the registers POP loads, only AF holds F. -/
theorem stackReg_put_f {reg : StackReg} (h : reg ≠ .qq .af) (t : State) (v : Word) : (reg.put t v).f = t.f := by
  match reg with
  | .qq .af => exact absurd rfl h
  | .qq .bc | .qq .de | .qq .hl | .idx .ix | .idx .iy => rfl

theorem stackReg_pop_effect (reg : StackReg) (s : State) : Effect reg.pop s (exec reg.pop s) := by
  have hi : s.specialAfter reg.pop = s.frameSpecial reg.pop := by
    match reg with
    | .qq p => cases p <;> rfl
    | .idx .ix | .idx .iy => rfl
  rw [exec_stackReg_pop]
  exact popWord_effect hi (stackReg_put_keepsPc reg) fun _ hne => stackReg_put_f fun h => hne (by rw [h]; rfl)

theorem stackReg_push_effect (reg : StackReg) (s : State) : Effect reg.push s (exec reg.push s) := by
  have hi : s.specialAfter reg.push = s.frameSpecial reg.push := by
    match reg with
    | .qq _ | .idx .ix | .idx .iy => rfl
  rw [exec_stackReg_push]
  exact pushWord_effect hi

theorem loadForm_effect (form : LoadForm) (s : State) : Effect form.instr s (exec form.instr s) := by
  have hi : s.specialAfter form.instr = s.frameSpecial form.instr := by
    match form with
    | .hl _ | .idx .ix _ _ | .idx .iy _ _ | .bc | .de | .abs _ => rfl
  rw [exec_loadForm]
  exact loadReg_effect hi (begin_loadForm_address form _ s)

theorem storeForm_effect (form : StoreForm) (s : State) : Effect form.instr s (exec form.instr s) := by
  have hi : s.specialAfter form.instr = s.frameSpecial form.instr := by
    match form with
    | .hl _ | .idx .ix _ _ | .idx .iy _ _ | .hlImm _ | .idxImm .ix _ _ | .idxImm .iy _ _ | .bc | .de | .abs _ => rfl
  rw [exec_storeForm]
  exact storeByte_effect hi (begin_storeForm_address form _ s) (begin_storeForm_value form _ s)

theorem callCcNn_effect (cc : Cond) (nn : Word) (s : State) :
    Effect (.callCcNn cc nn) s (exec (.callCcNn cc nn) s) := by
  rw [exec_callCcNn]
  split
  · exact call_effect rfl rfl
  · exact .completes (after_keeps rfl)

theorem retCc_effect (cc : Cond) (s : State) : Effect (.retCc cc) s (exec (.retCc cc) s) := by
  rw [exec_retCc]
  split
  · exact returnFromCall_effect rfl rfl
  · exact .completes (after_keeps rfl)

/-- A branch writes PC, and perhaps B, in the step frame. -/
theorem branch_effect {i : Instr} {s : State} {pc : Word} {b : Byte} (hi : s.specialAfter i = s.frameSpecial i)
    (hpc : writesPc i = true) : Effect i s (.next { s.after i with pc := pc, b := b }) :=
  .completes (Ordinary.keeps (u := { s.begin i with pc := pc, b := b }) (.of_mem rfl rfl) hi
    (fun h => absurd h (by simp [hpc])) fun _ _ _ => ⟨rfl, rfl⟩)

theorem raiseIo_effect (i : Instr) (s : State) : Effect i s (raiseIo i s) := .faults nofun

/-- Every instruction completes within `Keeps` or raises a fault. -/
theorem exec_effect (i : Instr) (s : State) : Effect i s (exec i s) := by
  cases i with
  | addAHl | addAIxd | addAIyd => exact aluLoc_effect .add rfl
  | adcAHl | adcAIxd | adcAIyd => exact aluLoc_effect .adc rfl
  | subHl | subIxd | subIyd => exact aluLoc_effect .sub rfl
  | sbcAHl | sbcAIxd | sbcAIyd => exact aluLoc_effect .sbc rfl
  | andHl | andIxd | andIyd => exact aluLoc_effect .and rfl
  | xorHl | xorIxd | xorIyd => exact aluLoc_effect .xor rfl
  | orHl | orIxd | orIyd => exact aluLoc_effect .or rfl
  | cpHl | cpIxd | cpIyd => exact aluLoc_effect .cp rfl
  | incHl | incIxd | incIyd | decHl | decIxd | decIyd | rlcHl | rlcIxd | rlcIyd | rrcHl | rrcIxd | rrcIyd
  | rlHl | rlIxd | rlIyd | rrHl | rrIxd | rrIyd | slaHl | slaIxd | slaIyd | sraHl | sraIxd | sraIyd
  | srlHl | srlIxd | srlIyd => exact modifyLoc_effect rfl
  | incR r | decR r | rlcR r | rrcR r | rlR r | rrR r | slaR r | sraR r | srlR r =>
    exact modifyLoc_effect (o := .reg r) rfl
  | bitHl | bitIxd | bitIyd => exact testLoc_effect rfl
  | bitR b r => exact testLoc_effect (o := .reg r) rfl
  | resHl | resIxd | resIyd | setHl | setIxd | setIyd => exact rewriteLoc_effect rfl
  | resR b r => exact rewriteLoc_effect (o := .reg r) (g := fun v => v &&& ~~~bitMask b) rfl
  | setR b r => exact rewriteLoc_effect (o := .reg r) (g := fun v => v ||| bitMask b) rfl
  | addAR | adcAR | subR | sbcAR | andR | xorR | orR | cpR | addAN | adcAN | subN | sbcAN | andN | xorN | orN | cpN
  | rlca | rrca | rla | rra | daa | cpl | ccf | scf | neg | ldAI | ldAR =>
    refine .completes ⟨rfl, rfl, id, fun _ => rfl, fun _ _ _ => ?_⟩
    exact sameUnused_setFlags ..
  | addHlSs p => rw [exec_addHlSs]; exact .completes (hlNext_keeps rfl)
  | adcHlSs p => rw [exec_adcHlSs]; exact .completes (hlNext_keeps rfl)
  | sbcHlSs p => rw [exec_sbcHlSs]; exact .completes (hlNext_keeps rfl)
  | addIxPp p => exact addIndexInstr_effect .ix p s
  | addIyRr p => exact addIndexInstr_effect .iy p s
  | incIx | decIx | ldIxNn => exact (dataUpdate_setIndex (s.begin _) .ix _).effect rfl
  | incIy | decIy | ldIyNn => exact (dataUpdate_setIndex (s.begin _) .iy _).effect rfl
  | incSs p | decSs p | ldDdNn p => exact (dataUpdate_setPair (s.begin _) p _).effect rfl
  | ldSpHl | ldSpIx | ldSpIy => exact (dataUpdate_setPair (s.begin _) .sp _).effect rfl
  | ldRR r | ldRN r => exact (dataUpdate_setReg8 (s.begin _) r _).effect rfl
  | exDeHl => exact (exchange_effects s).1
  | exx => exact (exchange_effects s).2.1
  | exAfAf => exact (exchange_effects s).2.2
  | nop | ldIA | ldRA | halt | di | ei | im0 | im1 | im2 =>
    exact .completes ⟨rfl, rfl, id, fun _ => rfl, fun _ _ _ => ⟨rfl, rfl⟩⟩
  | ldRHl r => exact loadForm_effect (.hl r) s
  | ldRIxd r d => exact loadForm_effect (.idx .ix r d) s
  | ldRIyd r d => exact loadForm_effect (.idx .iy r d) s
  | ldABc => exact loadForm_effect .bc s
  | ldADe => exact loadForm_effect .de s
  | ldAMem nn => exact loadForm_effect (.abs nn) s
  | ldHlR r => exact storeForm_effect (.hl r) s
  | ldIxdR r d => exact storeForm_effect (.idx .ix r d) s
  | ldIydR r d => exact storeForm_effect (.idx .iy r d) s
  | ldHlN n => exact storeForm_effect (.hlImm n) s
  | ldIxdN d n => exact storeForm_effect (.idxImm .ix d n) s
  | ldIydN d n => exact storeForm_effect (.idxImm .iy d n) s
  | ldBcA => exact storeForm_effect .bc s
  | ldDeA => exact storeForm_effect .de s
  | ldMemA nn => exact storeForm_effect (.abs nn) s
  | ldHlMem nn => exact wordReg_load_effect .hl nn s
  | ldDdMem p nn => exact wordReg_load_effect (.ss p) nn s
  | ldIxMem nn => exact wordReg_load_effect (.idx .ix) nn s
  | ldIyMem nn => exact wordReg_load_effect (.idx .iy) nn s
  | ldMemHl nn => exact wordReg_store_effect .hl nn s
  | ldMemDd p nn => exact wordReg_store_effect (.ss p) nn s
  | ldMemIx nn => exact wordReg_store_effect (.idx .ix) nn s
  | ldMemIy nn => exact wordReg_store_effect (.idx .iy) nn s
  | exSpHl => exact topReg_effect .hl s
  | exSpIx => exact topReg_effect (.idx .ix) s
  | exSpIy => exact topReg_effect (.idx .iy) s
  | pushQq qq => exact stackReg_push_effect (.qq qq) s
  | pushIx => exact stackReg_push_effect (.idx .ix) s
  | pushIy => exact stackReg_push_effect (.idx .iy) s
  | popQq qq => exact popQq_effect qq s
  | popAf => exact stackReg_pop_effect (.qq .af) s
  | popIx => exact stackReg_pop_effect (.idx .ix) s
  | popIy => exact stackReg_pop_effect (.idx .iy) s
  | rld => exact digitInstr_effect true s
  | rrd => exact digitInstr_effect false s
  | ldi => exact transferInstr_effect true false s
  | ldd => exact transferInstr_effect false false s
  | ldir => exact transferInstr_effect true true s
  | lddr => exact transferInstr_effect false true s
  | cpi => exact searchInstr_effect true false s
  | cpd => exact searchInstr_effect false false s
  | cpir => exact searchInstr_effect true true s
  | cpdr => exact searchInstr_effect false true s
  | jpNn | jpHl | jpIx | jpIy | jrE => exact branch_effect (b := s.b) rfl rfl
  | jpCcNn cc nn => rw [exec_jpCcNn]; exact branch_effect (b := s.b) rfl rfl
  | jrJE j e => rw [exec_jrJE]; exact branch_effect (b := s.b) rfl rfl
  | djnzE e => rw [exec_djnzE]; exact branch_effect rfl rfl
  | callNn | rstT => exact call_effect rfl rfl
  | callCcNn cc nn => exact callCcNn_effect cc nn s
  | ret => exact returnFromCall_effect rfl rfl
  | retCc cc => exact retCc_effect cc s
  | reti | retn => exact returnFromHandler_effect rfl rfl
  | inAN | outNA | inRC | outCR | ini | ind | inir | indr | outi | outd | otir | otdr => exact raiseIo_effect ..

end Sys2Proof.Machine
end

section
/-! Decoding the encoding of an instruction (30_encoding.md sections 1, 2, 3). -/

namespace Sys2Proof

theorem encode_length (i : Instr) : (encode i).length = i.length := by cases i <;> rfl

/-! ### An instruction that a table answers is what the whole sequence decodes to -/

section Tables
variable {i : Instr} {op d : Byte} {rest : List Byte}

theorem decode_of_main (hop : isPrefixByte op = false)
    (h : decodeMain op (rest.getD 0 0) (rest.getD 1 0) = some i) : decode (op :: rest) = .instr i := by
  have hdecode := decode_unprefixed hop (rest.getD 0 0) (rest.getD 1 0) (rest.getD 2 0)
  rw [h] at hdecode
  exact hdecode

theorem decode_of_CB (h : decodeCB op = some i) : decode (0xCB#8 :: op :: rest) = .instr i :=
  congrArg (orIllegal · [0xCB#8, op]) h

theorem decode_of_ED (h : decodeED op (rest.getD 0 0) (rest.getD 1 0) = some i) :
    decode (0xED#8 :: op :: rest) = .instr i :=
  congrArg (orIllegal · [0xED#8, op]) h

theorem decode_of_DD (hop : op ≠ 0xCB#8) (h : decodeXY .ix op (rest.getD 0 0) (rest.getD 1 0) = some i) :
    decode (0xDD#8 :: op :: rest) = .instr i :=
  (decodeIndexed_of_ne_CB .ix 0xDD#8 _ _ hop).trans (congrArg (orIllegal · [0xDD#8, op]) h)

theorem decode_of_FD (hop : op ≠ 0xCB#8) (h : decodeXY .iy op (rest.getD 0 0) (rest.getD 1 0) = some i) :
    decode (0xFD#8 :: op :: rest) = .instr i :=
  (decodeIndexed_of_ne_CB .iy 0xFD#8 _ _ hop).trans (congrArg (orIllegal · [0xFD#8, op]) h)

theorem decode_of_DDCB (h : decodeXCB .ix d op = some i) : decode (0xDD#8 :: 0xCB#8 :: d :: op :: rest) = .instr i :=
  congrArg (orIllegal · [0xDD#8, 0xCB#8, d, op]) h

theorem decode_of_FDCB (h : decodeXCB .iy d op = some i) : decode (0xFD#8 :: 0xCB#8 :: d :: op :: rest) = .instr i :=
  congrArg (orIllegal · [0xFD#8, 0xCB#8, d, op]) h

end Tables

/-! ### Every instruction -/

/-- The eight values of a bit number or a restart field. -/
theorem bitVec3_cases (b : BitVec 3) :
    b = 0#3 ∨ b = 1#3 ∨ b = 2#3 ∨ b = 3#3 ∨ b = 4#3 ∨ b = 5#3 ∨ b = 6#3 ∨ b = 7#3 := by
  revert b
  decide

theorem decode_encode_bitInstr (op : Machine.BitOp) (b : BitVec 3) (o : Machine.Operand8) (rest : List Byte) :
    decode (encode (op.instr b o) ++ rest) = .instr (op.instr b o) := by
  obtain rfl | rfl | rfl | rfl | rfl | rfl | rfl | rfl := bitVec3_cases b
  all_goals
    match o with
    | .reg r => cases op <;> cases r <;> exact decode_of_CB rfl
    | .hl => cases op <;> exact decode_of_CB rfl
    | .idx .ix _ => cases op <;> exact decode_of_DDCB rfl
    | .idx .iy _ => cases op <;> exact decode_of_FDCB rfl

theorem decode_encode_rstT (t : BitVec 3) (rest : List Byte) :
    decode (encode (.rstT t) ++ rest) = .instr (.rstT t) := by
  obtain rfl | rfl | rfl | rfl | rfl | rfl | rfl | rfl := bitVec3_cases t <;> exact decode_of_main rfl rfl

theorem decode_encode_popQq (qq : PairQ) (rest : List Byte) (h : (Instr.popQq qq).wf = true) :
    decode (encode (.popQq qq) ++ rest) = .instr (.popQq qq) := by
  cases qq with
  | bc | de | hl => exact decode_of_main rfl rfl
  | af => exact absurd h (by decide)

/-- A word operand is put together from the two bytes its encoding takes it apart to. -/
theorem some_word (f : Word → Instr) (nn : Word) : some (f (promote (hiByte nn) (loByte nn))) = some (f nn) := by
  rw [promote_hiByte_loByte]

/-- Decoding is a left inverse of encoding. -/
theorem decode_encode (i : Instr) (rest : List Byte) (hwf : i.wf = true) : decode (encode i ++ rest) = .instr i := by
  cases i with
  | addAR r | adcAR r | subR r | sbcAR r | andR r | xorR r | orR r | cpR r | incR r | decR r | ldRN r | ldRHl r
  | ldHlR r => cases r <;> exact decode_of_main rfl rfl
  | ldRR r r' => cases r <;> cases r' <;> exact decode_of_main rfl rfl
  | addHlSs p | incSs p | decSs p => cases p <;> exact decode_of_main rfl rfl
  | pushQq qq => cases qq <;> exact decode_of_main rfl rfl
  | popQq qq => exact decode_encode_popQq qq rest hwf
  | retCc cc => cases cc <;> exact decode_of_main rfl rfl
  | jrJE j => cases j <;> exact decode_of_main rfl rfl
  | rstT t => exact decode_encode_rstT t rest
  | addAN | addAHl | adcAN | adcAHl | subN | subHl | sbcAN | sbcAHl | andN | andHl | xorN | xorHl | orN | orHl | cpN
  | cpHl | incHl | decHl | daa | cpl | ccf | scf | rlca | rrca | rla | rra | exDeHl | exx | exAfAf | exSpHl | ldHlN
  | ldABc | ldADe | ldBcA | ldDeA | ldSpHl | popAf | jrE | djnzE | jpHl | ret | nop | halt | di | ei | inAN
  | outNA => exact decode_of_main rfl rfl
  | ldAMem nn => exact decode_of_main rfl (some_word .ldAMem nn)
  | ldMemA nn => exact decode_of_main rfl (some_word .ldMemA nn)
  | ldHlMem nn => exact decode_of_main rfl (some_word .ldHlMem nn)
  | ldMemHl nn => exact decode_of_main rfl (some_word .ldMemHl nn)
  | jpNn nn => exact decode_of_main rfl (some_word .jpNn nn)
  | callNn nn => exact decode_of_main rfl (some_word .callNn nn)
  | ldDdNn p nn => cases p <;> exact decode_of_main rfl (some_word (.ldDdNn _) nn)
  | jpCcNn cc nn => cases cc <;> exact decode_of_main rfl (some_word (.jpCcNn _) nn)
  | callCcNn cc nn => cases cc <;> exact decode_of_main rfl (some_word (.callCcNn _) nn)
  | rlcR r | rrcR r | rlR r | rrR r | slaR r | sraR r | srlR r => cases r <;> exact decode_of_CB rfl
  | rlcHl | rrcHl | rlHl | rrHl | slaHl | sraHl | srlHl => exact decode_of_CB rfl
  | bitR b r => exact decode_encode_bitInstr .bit b (.reg r) rest
  | bitHl b => exact decode_encode_bitInstr .bit b .hl rest
  | bitIxd b d => exact decode_encode_bitInstr .bit b (.idx .ix d) rest
  | bitIyd b d => exact decode_encode_bitInstr .bit b (.idx .iy d) rest
  | resR b r => exact decode_encode_bitInstr .res b (.reg r) rest
  | resHl b => exact decode_encode_bitInstr .res b .hl rest
  | resIxd b d => exact decode_encode_bitInstr .res b (.idx .ix d) rest
  | resIyd b d => exact decode_encode_bitInstr .res b (.idx .iy d) rest
  | setR b r => exact decode_encode_bitInstr .set b (.reg r) rest
  | setHl b => exact decode_encode_bitInstr .set b .hl rest
  | setIxd b d => exact decode_encode_bitInstr .set b (.idx .ix d) rest
  | setIyd b d => exact decode_encode_bitInstr .set b (.idx .iy d) rest
  | rlcIxd | rrcIxd | rlIxd | rrIxd | slaIxd | sraIxd | srlIxd => exact decode_of_DDCB rfl
  | rlcIyd | rrcIyd | rlIyd | rrIyd | slaIyd | sraIyd | srlIyd => exact decode_of_FDCB rfl
  | inRC r | outCR r => cases r <;> exact decode_of_ED rfl
  | adcHlSs p | sbcHlSs p => cases p <;> exact decode_of_ED rfl
  | ldDdMem p nn => cases p <;> exact decode_of_ED (some_word (.ldDdMem _) nn)
  | ldMemDd p nn => cases p <;> exact decode_of_ED (some_word (.ldMemDd _) nn)
  | neg | rld | rrd | ldi | ldd | ldir | lddr | cpi | cpd | cpir | cpdr | ldAI | ldAR | ldIA | ldRA | reti | retn
  | im0 | im1 | im2 | ini | ind | inir | indr | outi | outd | otir | otdr => exact decode_of_ED rfl
  | ldRIxd r | ldIxdR r => cases r <;> exact decode_of_DD (by decide) rfl
  | ldRIyd r | ldIydR r => cases r <;> exact decode_of_FD (by decide) rfl
  | addIxPp pp => cases pp <;> exact decode_of_DD (by decide) rfl
  | addIyRr rr => cases rr <;> exact decode_of_FD (by decide) rfl
  | addAIxd | adcAIxd | subIxd | sbcAIxd | andIxd | xorIxd | orIxd | cpIxd | incIxd | decIxd | incIx | decIx | exSpIx
  | ldIxdN | ldSpIx | pushIx | popIx | jpIx => exact decode_of_DD (by decide) rfl
  | addAIyd | adcAIyd | subIyd | sbcAIyd | andIyd | xorIyd | orIyd | cpIyd | incIyd | decIyd | incIy | decIy | exSpIy
  | ldIydN | ldSpIy | pushIy | popIy | jpIy => exact decode_of_FD (by decide) rfl
  | ldIxNn nn => exact decode_of_DD (by decide) (some_word .ldIxNn nn)
  | ldIxMem nn => exact decode_of_DD (by decide) (some_word .ldIxMem nn)
  | ldMemIx nn => exact decode_of_DD (by decide) (some_word .ldMemIx nn)
  | ldIyNn nn => exact decode_of_FD (by decide) (some_word .ldIyNn nn)
  | ldIyMem nn => exact decode_of_FD (by decide) (some_word .ldIyMem nn)
  | ldMemIy nn => exact decode_of_FD (by decide) (some_word .ldMemIy nn)

/-- Settles O2: each table answers the instruction of its opcode byte, and the operand bytes are passed through. -/
theorem decodeOfEncodeIsTheInstruction : Obligations.DecodeOfEncodeIsTheInstruction :=
  fun i rest hwf => ⟨decode_encode i rest hwf, encode_length i⟩

end Sys2Proof
end

section
/-! Encoding what the decoder read (30_encoding.md sections 1, 2, 3, 5 and 6). -/

namespace Sys2Proof

/-! ### The operand bytes are passed through

Each table answers, for any operand bytes, the encoding it answers for operand bytes 0 with those bytes put in: a
branch of the table either ignores them or hands them to one constructor, so the proofs split on the branches. -/

/-- The encoding of `i` with what follows its first `k` bytes replaced by `operands`, and whether `i` is well formed. -/
def withOperands (k : Nat) (operands : List Byte) (i : Instr) : List Byte × Bool :=
  ((encode i).take k ++ operands.take (i.length - k), i.wf)

/-- The encoding of `i`, and whether it is well formed. -/
def encodeWf (i : Instr) : List Byte × Bool := (encode i, i.wf)

theorem decodeMain_operands (op n1 n2 : Byte) :
    (decodeMain op n1 n2).map encodeWf = (decodeMain op 0 0).map (withOperands 1 [n1, n2]) := by
  simp only [decodeMain, decodeX0, decodeX1, decodeX3, aluR, aluHl, aluN]
  repeat' (split <;> try rfl)
  all_goals simp [encodeWf, withOperands, encode, Instr.length, Instr.format, Format.length, Instr.wf]

theorem decodeED_operands (op n1 n2 : Byte) :
    (decodeED op n1 n2).map encodeWf = (decodeED op 0 0).map (withOperands 2 [n1, n2]) := by
  simp only [decodeED, decodeEDX1, decodeEDX2]
  repeat' (split <;> try rfl)
  · rw [Option.map_map, Option.map_map]; rfl
  · rw [Option.map_map, Option.map_map]; rfl
  all_goals simp [encodeWf, withOperands, encode, Instr.length, Instr.format, Format.length, Instr.wf]

theorem decodeXY_operands (xy : IndexReg) (op n1 n2 : Byte) :
    (decodeXY xy op n1 n2).map encodeWf = (decodeXY xy op 0 0).map (withOperands 2 [n1, n2]) := by
  simp only [decodeXY, decodeXYX0, decodeXYX3, aluIdx]
  cases xy
  all_goals
    repeat' (split <;> try rfl)
    all_goals simp [encodeWf, withOperands, encode, Instr.length, Instr.format, Format.length, Instr.wf, IndexReg.pick]

theorem decodeXCB_operand (xy : IndexReg) (d op : Byte) :
    (decodeXCB xy d op).map encodeWf = (decodeXCB xy 0 op).map fun i => ((encode i).set 2 d, i.wf) := by
  simp only [decodeXCB, shiftIdx]
  cases xy
  repeat' (split <;> try rfl)

/-! ### The opcode bytes are those read -/

theorem decodeMain_opcode (op : Byte) :
    (decodeMain op 0 0).all (fun i => (encode i).take 1 == [op] && i.wf) = true := by
  revert op
  decide

theorem decodeCB_opcode (op : Byte) :
    (decodeCB op).all (fun i => encode i == [0xCB#8, op] && i.wf) = true := by
  revert op
  decide

theorem decodeED_opcode (op : Byte) :
    (decodeED op 0 0).all (fun i => (encode i).take 2 == [0xED#8, op] && i.wf) = true := by
  revert op
  decide

/-- The first byte of the instructions of an index register. -/
def IndexReg.prefixByte (xy : IndexReg) : Byte := xy.pick 0xDD#8 0xFD#8

theorem decodeXY_opcode (xy : IndexReg) (op : Byte) :
    (decodeXY xy op 0 0).all (fun i => (encode i).take 2 == [xy.prefixByte, op] && i.wf) = true := by
  cases xy <;> revert op <;> decide

theorem decodeXCB_opcode (xy : IndexReg) (op : Byte) :
    (decodeXCB xy 0 op).all (fun i => encode i == [xy.prefixByte, 0xCB#8, 0, op] && i.wf) = true := by
  cases xy <;> revert op <;> decide

/-! ### The bytes an instruction was read from -/

/-- `i` is well formed and its encoding is the first of the bytes given. -/
def ReadFrom (bytes : List Byte) (i : Instr) : Prop := i.wf = true ∧ encode i <+: bytes

theorem readFrom_of_table {o o' : Option Instr} {i : Instr} {k : Nat} {pre operands : List Byte}
    (hmap : o.map encodeWf = o'.map (withOperands k operands))
    (hall : o'.all (fun j => (encode j).take k == pre && j.wf) = true) (h : o = some i) :
    ReadFrom (pre ++ operands) i := by
  subst h
  cases o' with
  | none => cases hmap
  | some j =>
    simp only [Option.map_some, Option.some.injEq, encodeWf, withOperands, Prod.mk.injEq] at hmap
    simp only [Option.all_some, Bool.and_eq_true, beq_iff_eq] at hall
    obtain ⟨hencode, hwf⟩ := hmap
    obtain ⟨hpre, hwf'⟩ := hall
    refine ⟨hwf.trans hwf', ?_⟩
    rw [hencode, hpre]
    exact List.prefix_append_right_inj pre |>.mpr (List.take_prefix ..)

theorem readFrom_of_decodeMain {op n1 n2 : Byte} {i : Instr} (h : decodeMain op n1 n2 = some i) :
    ReadFrom [op, n1, n2] i :=
  readFrom_of_table (decodeMain_operands op n1 n2) (decodeMain_opcode op) h

theorem readFrom_of_decodeED {op n1 n2 : Byte} {i : Instr} (h : decodeED op n1 n2 = some i) :
    ReadFrom [0xED#8, op, n1, n2] i :=
  readFrom_of_table (decodeED_operands op n1 n2) (decodeED_opcode op) h

theorem readFrom_of_decodeXY {xy : IndexReg} {op n1 n2 : Byte} {i : Instr} (h : decodeXY xy op n1 n2 = some i) :
    ReadFrom [xy.prefixByte, op, n1, n2] i :=
  readFrom_of_table (decodeXY_operands xy op n1 n2) (decodeXY_opcode xy op) h

theorem readFrom_of_decodeCB {op : Byte} {i : Instr} (h : decodeCB op = some i) : ReadFrom [0xCB#8, op] i := by
  have hall := decodeCB_opcode op
  simp only [h, Option.all_some, Bool.and_eq_true, beq_iff_eq] at hall
  obtain ⟨hencode, hwf⟩ := hall
  exact ⟨hwf, hencode ▸ List.prefix_rfl⟩

theorem readFrom_of_decodeXCB {xy : IndexReg} {d op : Byte} {i : Instr} (h : decodeXCB xy d op = some i) :
    ReadFrom [xy.prefixByte, 0xCB#8, d, op] i := by
  have hmap := decodeXCB_operand xy d op
  have hall := decodeXCB_opcode xy op
  rw [h] at hmap
  generalize decodeXCB xy 0 op = o at hmap hall
  cases o with
  | none => cases hmap
  | some j =>
    simp only [Option.map_some, Option.some.injEq, encodeWf, Prod.mk.injEq] at hmap
    simp only [Option.all_some, Bool.and_eq_true, beq_iff_eq] at hall
    obtain ⟨hencode, hwf⟩ := hmap
    obtain ⟨hbytes, hwf'⟩ := hall
    refine ⟨hwf.trans hwf', ?_⟩
    rw [hencode, hbytes]
    exact List.prefix_rfl

theorem orIllegal_eq_instr {o : Option Instr} {bytes : List Byte} {i : Instr} (h : orIllegal o bytes = .instr i) :
    o = some i := by
  cases o with
  | none => cases h
  | some j => exact congrArg some (Decoded.instr.inj h)

theorem readFrom_append {bytes : List Byte} {i : Instr} (h : ReadFrom bytes i) (more : List Byte) :
    ReadFrom (bytes ++ more) i := ⟨h.1, h.2.trans (List.prefix_append ..)⟩

theorem readFrom_of_decodeIndexed {xy : IndexReg} {b1 b2 b3 : Byte} {i : Instr}
    (h : decodeIndexed xy xy.prefixByte b1 b2 b3 = .instr i) : ReadFrom [xy.prefixByte, b1, b2, b3] i := by
  by_cases hcb : b1 = 0xCB#8
  · subst hcb
    exact readFrom_of_decodeXCB (orIllegal_eq_instr h)
  · rw [decodeIndexed_of_ne_CB _ _ _ _ hcb] at h
    exact readFrom_of_decodeXY (orIllegal_eq_instr h)

theorem readFrom_of_decode {b0 b1 b2 b3 : Byte} {i : Instr} (h : decode [b0, b1, b2, b3] = .instr i) :
    ReadFrom [b0, b1, b2, b3] i := by
  cases hprefix : isPrefixByte b0 with
  | false =>
    rw [decode_unprefixed hprefix] at h
    exact readFrom_append (readFrom_of_decodeMain (orIllegal_eq_instr h)) [b3]
  | true =>
    obtain rfl | rfl | rfl | rfl := isPrefixByte_eq_true_iff.mp hprefix
    · exact readFrom_append (readFrom_of_decodeCB (orIllegal_eq_instr h)) [b2, b3]
    · exact readFrom_of_decodeED (orIllegal_eq_instr h)
    · exact readFrom_of_decodeIndexed (xy := .ix) h
    · exact readFrom_of_decodeIndexed (xy := .iy) h

/-- Settles O3: the opcode bytes of what a table answers are those it was asked for, and the operand bytes follow. -/
theorem encodeOfDecodeIsTheBytes : Obligations.EncodeOfDecodeIsTheBytes := by
  intro b0 b1 b2 b3 rest i h
  obtain ⟨hwf, hprefix⟩ := readFrom_of_decode (b0 := b0) (b1 := b1) (b2 := b2) (b3 := b3) h
  refine ⟨hwf, ?_⟩
  rw [← encode_length]
  exact List.prefix_iff_eq_take.mp hprefix

end Sys2Proof
end

section
/-! The step of the core: one equation for each case of the priority of 60_exceptions.md R510, and what each leaves. -/

namespace Sys2Proof.Machine

/-! ### Reporting -/

theorem report_outcome_of_alive {u : State} (h : u.alive = true) (normal : StepOutcome) :
    (u.report normal).outcome = some normal := by
  unfold State.alive at h
  unfold State.report
  split at h <;> simp_all

theorem exists_record_of_not_alive {s : State} (h : s.alive = false) : ∃ record, s.run = .faulted record := by
  unfold State.alive at h
  split at h
  · next record hrun => exact ⟨record, hrun⟩
  · cases h

theorem alive_of_running {s : State} (h : s.run = .running) : s.alive = true := by
  simp [State.alive, h]

/-! ### The step by the priority of R510 -/

theorem step_of_not_alive {s : State} (h : s.alive = false) :
    step s = .next { s.advanceInputs with outcome := some .stuck } := by
  obtain ⟨record, hrun⟩ := exists_record_of_not_alive h
  simp [step, stepWith, hrun]

theorem step_of_reset {s : State} (halive : s.alive = true) (hreset : s.nextInputs.reset = true) :
    step s = .next (s.advanceInputs.applyReset.report .reset) := by
  rw [step, stepWith_of_alive (s := s.advanceInputs) _ halive, if_pos hreset]

theorem step_of_nmiNext {s : State} (h : s.nmiNext = true) :
    step s = .next ((s.advanceInputs.respond (s.advanceInputs.latchNmi s.nextInputs).nmiResponse).report
      .nmiTaken) := by
  have h' := h
  simp only [State.nmiNext, Bool.and_eq_true, Bool.not_eq_true'] at h'
  obtain ⟨⟨halive, hreset⟩, -⟩ := h'
  have hlatch : (s.advanceInputs.latchNmi s.nextInputs).nmiPending = true :=
    (nmiNext_of_alive halive hreset).symm.trans h
  rw [step, stepWith_of_alive (s := s.advanceInputs) _ halive, if_neg (Bool.eq_false_iff.mp hreset), if_pos hlatch]

theorem intNext_imp {s : State} (h : s.intNext = true) :
    s.alive = true ∧ s.nextInputs.reset = false ∧ s.nmiNext = false ∧ s.nmiPending = false := by
  simp only [State.intNext, Bool.and_eq_true, Bool.not_eq_true'] at h
  obtain ⟨⟨⟨⟨⟨⟨halive, hreset⟩, hpending⟩, hedge⟩, -⟩, -⟩, -⟩ := h
  exact ⟨halive, hreset, by simp [State.nmiNext, hpending, hedge], hpending⟩

theorem step_of_intNext {s : State} (h : s.intNext = true) :
    step s = .next ((s.advanceInputs.intResponse s.nextInputs.busByte).report .intTaken) := by
  obtain ⟨halive, hreset, hnmi, -⟩ := intNext_imp h
  have haccepts : s.advanceInputs.acceptsInt s.nextInputs = true := (intNext_of_alive halive hreset hnmi).symm.trans h
  rw [step_eq_stepBelowNmi halive hreset hnmi, stepBelowNmi, if_pos haccepts]

theorem pending_of_not_nmiNext {s : State} (halive : s.alive = true) (hreset : s.nextInputs.reset = false)
    (hnmi : s.nmiNext = false) : s.nmiPending = false ∧ s.nextInputs.nmiEdge = false := by
  rw [nmiNext_of_alive halive hreset] at hnmi
  exact Bool.or_eq_false_iff.mp hnmi

theorem instructionNext_of_running {s : State} (hrun : s.run = .running) (hreset : s.nextInputs.reset = false)
    (hnmi : s.nmiNext = false) (hint : s.intNext = false) : s.instructionNext = true := by
  have halive := alive_of_running hrun
  obtain ⟨hpending, hedge⟩ := pending_of_not_nmiNext halive hreset hnmi
  rw [intNext_of_alive halive hreset hnmi] at hint
  simp [State.instructionNext, hrun, hreset, hpending, hedge, hint]

theorem instructionNext_imp {s : State} (h : s.instructionNext = true) :
    s.run = .running ∧ s.nmiPending = false := by
  simp only [State.instructionNext, Bool.and_eq_true, Bool.not_eq_true', beq_iff_eq] at h
  obtain ⟨⟨⟨⟨hrun, -⟩, hpending⟩, -⟩, -⟩ := h
  exact ⟨hrun, hpending⟩

/-- Which case of the priority a step of a core that has not faulted falls in. -/
theorem priority_cases {s : State} (halive : s.alive = true) :
    s.nextInputs.reset = true ∨ s.nmiNext = true ∨ s.intNext = true ∨
      (s.run = .halted ∧ s.nextInputs.reset = false ∧ s.nmiNext = false ∧ s.intNext = false) ∨
      s.instructionNext = true := by
  cases hreset : s.nextInputs.reset with
  | true => exact .inl rfl
  | false =>
    cases hnmi : s.nmiNext with
    | true => exact .inr (.inl rfl)
    | false =>
      cases hint : s.intNext with
      | true => exact .inr (.inr (.inl rfl))
      | false =>
        cases hrun : s.run with
        | faulted record => simp [State.alive, hrun] at halive
        | halted => exact .inr (.inr (.inr (.inl ⟨rfl, rfl, rfl, rfl⟩)))
        | running => exact .inr (.inr (.inr (.inr (instructionNext_of_running hrun hreset hnmi hint))))

/-! ### The instruction step -/

theorem step_of_fetch_outside {s : State} (hnext : s.instructionNext = true) (hpc : s.mem.size ≤ s.pc.toNat) :
    step s = .next ((s.advanceInputs.raise (.memoryFault s.pc .fetch s.pc)).report .memoryFault) := by
  have hfetch : s.advanceInputs.fetch = .error { addr := s.pc, kind := .fetch } := if_pos hpc
  rw [step_of_instructionNext hnext, instructionStep, hfetch]
  rfl

theorem step_of_instr {s : State} {i : Instr} (hnext : s.instructionNext = true) (hpc : s.pc.toNat < s.mem.size)
    (hdecode : decode s.codeBytes = .instr i) :
    step s = Outcome.reporting (exec i s.advanceInputs) (.executed i) := by
  have hfetch : s.advanceInputs.fetch = .ok s.codeBytes := fetch_of_lt (s := s.advanceInputs) hpc
  rw [step_of_instructionNext hnext, instructionStep, State.executedOutcome, hfetch]
  simp only [hdecode]

/-- Settles O5: the fetch, the decoding and the meaning in the order of R113. -/
theorem stepRunsTheDecodedInstruction : Obligations.StepRunsTheDecodedInstruction :=
  fun _ hnext => ⟨step_of_fetch_outside hnext, fun hpc _ => step_of_illegal hnext hpc,
    fun hpc _ => step_of_instr hnext hpc⟩

/-- Settles O21: RESET is first in the priority of a core that has not faulted. -/
theorem resetInputApplies : Obligations.ResetInputApplies := by
  intro s hreset
  cases halive : s.alive with
  | true => exact ⟨_, step_of_reset halive hreset, rfl, rfl⟩
  | false => exact ⟨_, step_of_not_alive halive, rfl, rfl⟩

end Sys2Proof.Machine
end

section
/-! The NMI and INT responses (60_exceptions.md R515, R520, R521, R522). -/

namespace Sys2Proof.Machine

/-- The state in the handler at `target`, both writes of the return address inside the buffer (R522). -/
def State.entered (s : State) (target : Word) : State :=
  { s with
    iff1 := false, run := .running, r := incR 1 s.r, sp := s.sp - 2, pc := target
    mem := (s.mem.set (s.sp - 1).toNat (hiByte s.pc)).set (s.sp - 2).toNat (loByte s.pc) }

theorem entered_pushed (s : State) (target : Word) : pushed s (s.entered target) s.pc := by
  rw [pushed, ofNat_div_eq_hiByte, ofNat_mod_eq_loByte]
  exact ⟨rfl, stores2_of_mem_eq rfl⟩

theorem enterHandler_of_push_error {s : State} {vector : State → Exec Word} {e : MemError}
    (h : ({ s with iff1 := false, run := .running, r := incR 1 s.r } : State).push16 s.pc = .error e) :
    s.enterHandler vector = .error e := by
  rw [State.enterHandler, h, exec_error_bind]

theorem enterHandler_of_pushed {s : State} (vector : State → Exec Word) (h0 : (s.sp - 1).toNat < s.mem.size)
    (h1 : (s.sp - 2).toNat < s.mem.size) :
    s.enterHandler vector = (do let target ← vector (s.entered s.pc); return s.entered target) := by
  have hpush := push16_ok (s := { s with iff1 := false, run := .running, r := incR 1 s.r }) s.pc h0 h1
  rw [State.enterHandler, hpush, exec_ok_bind]
  rfl

/-- Everything a transfer to a handler can do: the faults of the push come before those of the vector. -/
theorem enterHandler_answers {saved s : State} {vector : State → Exec Word} {reads : List (Word × AccessKind)}
    {target : Word} (hsp : s.sp = saved.sp) (hsize : s.mem.size = saved.mem.size)
    (hvector : match saved.firstOutside reads with
      | none => vector (s.entered s.pc) = .ok target
      | some (a, kind) => vector (s.entered s.pc) = .error { addr := a, kind := kind }) :
    Answers (.next (saved.respond (s.enterHandler vector))) saved (saved.pushWrites ++ reads) (s.entered target) := by
  rw [State.pushWrites, List.cons_append, List.cons_append, List.nil_append, answers_cons, answers_cons,
    ← hsp, ← hsize]
  split
  · next h0 => rw [enterHandler_of_push_error (push16_error_high _ h0)]; rfl
  · next h0 =>
    split
    · next h1 => rw [enterHandler_of_push_error (push16_error_low _ (Nat.not_le.mp h0) h1)]; rfl
    · next h1 =>
      rw [enterHandler_of_pushed vector (Nat.not_le.mp h0) (Nat.not_le.mp h1)]
      rw [Answers]
      cases hfirst : saved.firstOutside reads with
      | none => rw [hfirst] at hvector; rw [hvector]; rfl
      | some access => rw [hfirst] at hvector; rw [hvector]; rfl

/-- What a response answers gives the outcome reported: its own, or the MemoryFault of the first access outside. -/
theorem Answers.reported {s t v : State} {l : List (Word × AccessKind)} {normal : StepOutcome} {P : State → Prop}
    (h : Answers (.next t) s.advanceInputs l v) (hv : v.alive = true) (hp : P (v.report normal)) :
    match s.firstOutside l with
    | none => (t.report normal).outcome = some normal ∧ P (t.report normal)
    | some (a, kind) =>
      (t.report normal).outcome = some .memoryFault ∧
        (t.report normal).arch = s.arch.raise (.memoryFault a kind s.pc) := by
  have hsame : s.advanceInputs.firstOutside l = s.firstOutside l := rfl
  rw [Answers, hsame] at h
  cases hfirst : s.firstOutside l with
  | none =>
    rw [hfirst] at h
    rw [Host.Outcome.next.inj h]
    exact ⟨report_outcome_of_alive hv normal, hp⟩
  | some access =>
    rw [hfirst] at h
    rw [Host.Outcome.next.inj h]
    exact ⟨rfl, rfl⟩

/-! ### The NMI response -/

/-- The state in the NMI handler: latch and shadow cleared, IFF2 kept (R515). -/
def State.inNmi (s : State) : State :=
  { s.entered Config.nmiVector with nmiPending := false, eiShadow := false }

theorem nmiResponse_answers (s : State) (inp : Inputs) :
    Answers (.next (s.respond (s.latchNmi inp).nmiResponse)) s s.pushWrites s.inNmi := by
  have h := enterHandler_answers (saved := s) (vector := fun _ => .ok Config.nmiVector) (reads := [])
    (s := { s.latchNmi inp with nmiPending := false, eiShadow := false }) (target := Config.nmiVector) rfl rfl rfl
  rwa [List.append_nil] at h

/-- Settles O22: the step is the response reported, and the response is a transfer to a handler. -/
theorem nmiResponse : Obligations.NmiResponse := by
  intro s hnmi
  refine ⟨_, step_of_nmiNext hnmi, ?_⟩
  exact (nmiResponse_answers s.advanceInputs s.nextInputs).reported
    (P := fun t => pushed s t s.pc ∧ t.arch = { s.inNmi.arch with sp := t.sp, mem := t.mem }) rfl
    ⟨entered_pushed s Config.nmiVector, rfl⟩

/-! ### The INT response -/

/-- The bus bytes an IM 0 acknowledge takes are the eight RST opcodes (R520). -/
theorem isRstByte_iff (bus : Byte) : isRstByte bus = true ↔ ∃ k : BitVec 3, bus.toNat = 0xC7 + 8 * k.toNat := by
  revert bus
  decide

theorem rstTarget_eq (bus : Byte) (h : isRstByte bus = true) :
    promote 0 (bus &&& 0x38#8) = BitVec.ofNat 16 (bus.toNat - 0xC7) := by
  revert bus
  decide

theorem im0Refuses_iff (s : State) (bus : Byte) :
    s.im0Refuses bus = true ↔ s.im = .im0 ∧ ¬∃ k : BitVec 3, bus.toNat = 0xC7 + 8 * k.toNat := by
  rw [← isRstByte_iff, State.im0Refuses]
  simp

/-- The address of the mode 2 vector (R521). -/
def State.vectorAddress (s : State) (bus : Byte) : Word := BitVec.ofNat 16 (256 * s.i.toNat + bus.toNat)

theorem promote_eq_vectorAddress (s : State) (bus : Byte) : promote s.i bus = s.vectorAddress bus := by
  rw [State.vectorAddress, Nat.mul_comm, ← promote_toNat, BitVec.ofNat_toNat, BitVec.setWidth_eq]

/-- The reads of the vector: in mode 2 only (R521). -/
def State.vectorReads (s : State) (bus : Byte) : List (Word × AccessKind) :=
  if s.im = .im2 then [(s.vectorAddress bus, .read), (s.vectorAddress bus + 1, .read)] else []

/-- Where an accepted INT enters; `t` is the state after the push, whose memory holds the vector (R520, R521). -/
def State.intTarget (s t : State) (bus : Byte) : Word :=
  match s.im with
  | .im0 => BitVec.ofNat 16 (bus.toNat - 0xC7)
  | .im1 => 0x0038#16
  | .im2 => t.wordAt (s.vectorAddress bus)

/-- The state in the handler of an INT: both flip-flops cleared (R520). -/
def State.inInt (s : State) (bus : Byte) : State := { s.entered (s.intTarget (s.entered s.pc) bus) with iff2 := false }

/-- The vector of mode 2 is read from memory after the push; its reads fault like any other. -/
theorem im2Vector_eq {saved u : State} {bus : Byte} (hi : u.i = saved.i) (hsize : u.mem.size = saved.mem.size) :
    match saved.firstOutside [(saved.vectorAddress bus, .read), (saved.vectorAddress bus + 1, .read)] with
    | none => u.im2Vector bus = .ok (u.wordAt (saved.vectorAddress bus))
    | some (a, kind) => u.im2Vector bus = .error { addr := a, kind := kind } := by
  have hread : u.im2Vector bus = u.readWord (saved.vectorAddress bus) := by
    rw [State.im2Vector, hi, promote_eq_vectorAddress]
  rw [hread, firstOutside_cons, firstOutside_cons, ← hsize]
  by_cases h0 : u.mem.size ≤ (saved.vectorAddress bus).toNat
  · rw [if_pos h0]
    exact readWord_error_low h0
  · rw [if_neg h0]
    by_cases h1 : u.mem.size ≤ (saved.vectorAddress bus + 1).toNat
    · rw [if_pos h1]
      exact readWord_error_high (Nat.not_le.mp h0) h1
    · rw [if_neg h1, wordAt_eq_promote]
      exact readWord_ok (Nat.not_le.mp h0) (Nat.not_le.mp h1)

theorem intVector_eq {saved u : State} {bus : Byte} (hrefuse : saved.im0Refuses bus = false) (him : u.im = saved.im)
    (hi : u.i = saved.i) (hmem : u.mem = (saved.entered saved.pc).mem) :
    match saved.firstOutside (saved.vectorReads bus) with
    | none => u.intVector bus = .ok (saved.intTarget (saved.entered saved.pc) bus)
    | some (a, kind) => u.intVector bus = .error { addr := a, kind := kind } := by
  rw [State.intVector, State.vectorReads, State.intTarget, him]
  cases hmode : saved.im with
  | im0 =>
    have hrst : isRstByte bus = true := by simpa [State.im0Refuses, hmode] using hrefuse
    exact congrArg Except.ok (rstTarget_eq bus hrst)
  | im1 => rfl
  | im2 =>
    have hword : (saved.entered saved.pc).wordAt (saved.vectorAddress bus) = u.wordAt (saved.vectorAddress bus) := by
      rw [State.wordAt, State.wordAt, hmem]
    rw [if_pos rfl, hword]
    have hsize : u.mem.size = saved.mem.size := by rw [hmem]; rfl
    exact im2Vector_eq hi hsize

theorem intTransfer_answers {s : State} {bus : Byte} (hrefuse : s.im0Refuses bus = false) :
    Answers (.next (s.respond (s.intTransfer bus))) s (s.pushWrites ++ s.vectorReads bus) (s.inInt bus) :=
  enterHandler_answers (s := { s with iff2 := false }) rfl rfl (intVector_eq hrefuse rfl rfl rfl)

/-- The vector is still in memory after the transfer. -/
theorem inInt_pc (s : State) (bus : Byte) : (s.inInt bus).pc = s.intTarget (s.inInt bus) bus := by
  change s.intTarget (s.entered s.pc) bus = _
  unfold State.intTarget
  cases s.im <;> rfl

/-- Settles O23: a bus byte that mode 0 refuses is decided first; the rest is a transfer to a handler. -/
theorem intResponse : Obligations.IntResponse := by
  intro s hint
  refine ⟨_, step_of_intNext hint, ?_⟩
  cases hrefuse : s.advanceInputs.im0Refuses s.nextInputs.busByte with
  | true =>
    rw [State.intResponse, if_pos hrefuse]
    have hcond := (im0Refuses_iff s.advanceInputs s.nextInputs.busByte).mp hrefuse
    exact (if_pos hcond).mpr ⟨rfl, rfl⟩
  | false =>
    rw [State.intResponse, if_neg (Bool.eq_false_iff.mp hrefuse)]
    have hcond := mt (im0Refuses_iff s.advanceInputs s.nextInputs.busByte).mpr (Bool.eq_false_iff.mp hrefuse)
    refine (if_neg hcond).mpr ?_
    exact (intTransfer_answers hrefuse).reported
      (P := fun t => pushed s t s.pc ∧
        t.arch = { (s.inInt s.nextInputs.busByte).arch with pc := t.pc, sp := t.sp, mem := t.mem } ∧
        t.pc = s.intTarget t s.nextInputs.busByte) rfl
      ⟨entered_pushed s (s.inInt s.nextInputs.busByte).pc, rfl, inInt_pc s s.nextInputs.busByte⟩

end Sys2Proof.Machine
end

section
/-! Which registers an instruction writes (10_state.md R38, R41, R54 to R61), read off `exec_effect`. -/

namespace Sys2Proof.Machine

/-! ### The special registers after an instruction that completes -/

theorem specialAfter_shadowAF (s : State) (i : Instr) :
    ((s.specialAfter i).a' = s.a' ∧ (s.specialAfter i).f' = s.f') ∨ i = .exAfAf := by
  unfold State.specialAfter
  split <;> simp [State.frameSpecial]

theorem specialAfter_shadowGeneral (s : State) (i : Instr) :
    ((s.specialAfter i).b' = s.b' ∧ (s.specialAfter i).c' = s.c' ∧ (s.specialAfter i).d' = s.d' ∧
      (s.specialAfter i).e' = s.e' ∧ (s.specialAfter i).h' = s.h' ∧ (s.specialAfter i).l' = s.l') ∨ i = .exx := by
  unfold State.specialAfter
  split <;> simp [State.frameSpecial]

theorem specialAfter_i (s : State) (i : Instr) : (s.specialAfter i).i = s.i ∨ i = .ldIA := by
  unfold State.specialAfter
  split <;> simp [State.frameSpecial]

theorem specialAfter_im (s : State) (i : Instr) :
    (s.specialAfter i).im = s.im ∨ i = .im0 ∨ i = .im1 ∨ i = .im2 := by
  unfold State.specialAfter
  split <;> simp [State.frameSpecial]

theorem specialAfter_iff2 (s : State) (i : Instr) : (s.specialAfter i).iff2 = s.iff2 ∨ i = .di ∨ i = .ei := by
  unfold State.specialAfter
  split <;> simp [State.frameSpecial]

theorem specialAfter_iff1 (s : State) (i : Instr) :
    (s.specialAfter i).iff1 = s.iff1 ∨ i = .di ∨ i = .ei ∨ i = .reti ∨ i = .retn := by
  unfold State.specialAfter
  split <;> simp [State.frameSpecial]

theorem specialAfter_run (s : State) (i : Instr) :
    (s.specialAfter i).run = s.run ∨ (i = .halt ∧ (s.specialAfter i).run = .halted) := by
  unfold State.specialAfter
  split <;> simp [State.frameSpecial]

theorem specialAfter_eiShadow (s : State) (i : Instr) : (s.specialAfter i).eiShadow = i.isEi := by
  unfold State.specialAfter
  split <;> rfl

theorem specialAfter_nmiPending (s : State) (i : Instr) : (s.specialAfter i).nmiPending = s.nmiPending := by
  unfold State.specialAfter
  split <;> rfl

theorem specialAfter_r (s : State) (i : Instr) :
    (s.specialAfter i).r = if i = .ldRA then s.a else incR i.m1 s.r := by
  unfold State.specialAfter
  split <;> simp_all [State.frameSpecial]

/-- IFF1 set only with IFF2 set: the two are written together, or IFF1 from IFF2 (R56). -/
theorem specialAfter_iff1_le_iff2 {s : State} (i : Instr) (h : s.iff1 = true → s.iff2 = true)
    (h1 : (s.specialAfter i).iff1 = true) : (s.specialAfter i).iff2 = true := by
  unfold State.specialAfter at h1 ⊢
  split at h1 <;> simp_all [State.frameSpecial]

theorem isEi_iff (i : Instr) : i.isEi = true ↔ i = .ei := by
  cases i <;> simp [Instr.isEi]

/-! ### What an instruction answers -/

/-- A next state of an instruction: one it completes in, or one it has faulted in. -/
theorem exec_next {i : Instr} {s t : State} (h : exec i s = .next t) :
    Keeps i s t ∨ ∃ record, FaultOf s record ∧ t = s.raise record := by
  have heffect := exec_effect i s
  rw [h] at heffect
  cases heffect with
  | completes hkeeps => exact .inl hkeeps
  | faults hfault => exact .inr ⟨_, hfault, rfl⟩

theorem keeps_of_alive {i : Instr} {s t : State} (h : exec i s = .next t) (halive : t.alive = true) :
    Keeps i s t := by
  obtain hkeeps | ⟨record, -, rfl⟩ := exec_next h
  · exact hkeeps
  · cases halive

/-- Settles O13: the shadow set is part of what `exec_effect` pins down. -/
theorem shadowSetWriters : Obligations.ShadowSetWriters := by
  intro i s t h
  obtain hkeeps | ⟨record, -, rfl⟩ := exec_next h
  · have haf := specialAfter_shadowAF s i
    have hgeneral := specialAfter_shadowGeneral s i
    rw [← hkeeps.special] at haf hgeneral
    exact ⟨haf.resolve_right, hgeneral.resolve_right⟩
  · exact ⟨fun _ => ⟨rfl, rfl⟩, fun _ => ⟨rfl, rfl, rfl, rfl, rfl, rfl⟩⟩

/-- Settles O14: every other write of F goes through `setFlags`. -/
theorem unusedFlagBitsAreKept : Obligations.UnusedFlagBitsAreKept := by
  intro i s t hwf h hpop hex
  obtain hkeeps | ⟨record, -, rfl⟩ := exec_next h
  · exact hkeeps.unused hwf hpop hex
  · exact ⟨rfl, rfl⟩

/-- Settles O15: a fault writes run_state alone; the rest is part of what `exec_effect` pins down. -/
theorem specialRegisterWriters : Obligations.SpecialRegisterWriters := by
  intro i s t _ h
  obtain hkeeps | ⟨record, -, rfl⟩ := exec_next h
  · have hi := specialAfter_i s i
    have him := specialAfter_im s i
    have hiff2 := specialAfter_iff2 s i
    have hiff1 := specialAfter_iff1 s i
    have hrun := specialAfter_run s i
    have hei := specialAfter_eiShadow s i
    have hnmi := specialAfter_nmiPending s i
    rw [← hkeeps.special] at hi him hiff2 hiff1 hrun hei hnmi
    refine ⟨hi.resolve_left, him.resolve_left, hiff2.resolve_left, hiff1.resolve_left,
      fun hne => .inl (hrun.resolve_left hne), fun _ => ?_, hnmi⟩
    rw [← isEi_iff, ← hei]
    rfl
  · exact ⟨absurd rfl, absurd rfl, absurd rfl, absurd rfl, fun _ => .inr ⟨record, rfl⟩, nofun, rfl⟩

/-! ### R and PC -/

/-- The M1 cycles of R115, by the first byte of the encoding: only an opcode field of an unprefixed instruction can
vary there. -/
theorem m1_eq (i : Instr) : i.m1 = if isPrefixByte ((encode i).headD 0) then 2 else 1 := by
  cases i with
  | addAR r | adcAR r | subR r | sbcAR r | andR r | xorR r | orR r | cpR r | incR r | decR r | ldRN r | ldRHl r
  | ldHlR r => cases r <;> rfl
  | ldRR r r' => cases r <;> cases r' <;> rfl
  | addHlSs p | incSs p | decSs p | ldDdNn p => cases p <;> rfl
  | pushQq qq | popQq qq => cases qq <;> rfl
  | retCc cc | jpCcNn cc | callCcNn cc => cases cc <;> rfl
  | jrJE j => cases j <;> rfl
  | rstT t => obtain rfl | rfl | rfl | rfl | rfl | rfl | rfl | rfl := bitVec3_cases t <;> rfl
  | _ => rfl

theorem incR_div_mod (k : Nat) (r : Byte) :
    (incR k r).toNat / 128 = r.toNat / 128 ∧ (incR k r).toNat % 128 = (r.toNat % 128 + k) % 128 := by
  rw [incR_toNat]
  omega

/-- Settles O16: one M1 cycle for each byte fetched as an opcode, and LD R,A writes R after the count. -/
theorem refreshRegisterCounts : Obligations.RefreshRegisterCounts := by
  intro i s t _ h halive
  have hr := specialAfter_r s i
  rw [← (keeps_of_alive h halive).special] at hr
  split
  · next hld => exact hr.trans (if_pos hld)
  · next hld =>
    have hcount : t.r = incR i.m1 s.r := hr.trans (if_neg hld)
    rw [hcount, ← m1_eq]
    exact incR_div_mod i.m1 s.r

/-- Settles O17: the step frame sets PC to `next`, and no other instruction writes it. -/
theorem pcAdvancesByTheLength : Obligations.PcAdvancesByTheLength := by
  intro i s t hwf _ h halive hpc
  rw [(keeps_of_alive h halive).pc hpc, encode_length]
  exact_mod_cast pcPlus_toNat i.length hwf

end Sys2Proof.Machine
end

section
/-! What every step leaves: one description of all steps, and the whole-machine rules read off it
(60_exceptions.md R501 to R511). -/

namespace Sys2Proof.Machine

/-- A step from `s` that raises no fault: the outcome it reports, and the state it reports it on. -/
inductive Runs (s : State) : StepOutcome → State → Prop
  | reset (hnot : s.instructionNext = false) : Runs s .reset s.advanceInputs.applyReset
  | nmi (hnot : s.instructionNext = false) (hin : ∀ x ∈ s.pushWrites, x.1.toNat < s.mem.size) :
    Runs s .nmiTaken s.advanceInputs.inNmi
  | int (hnot : s.instructionNext = false) (hpending : s.nmiPending = false)
    (hin : ∀ x ∈ s.pushWrites, x.1.toNat < s.mem.size) :
    Runs s .intTaken (s.advanceInputs.inInt s.nextInputs.busByte)
  | idle (hnot : s.instructionNext = false) (hrun : s.run = .halted) (hpending : s.nmiPending = false) :
    Runs s .idle s.advanceInputs.idleStep
  | executed {i : Instr} {u : State} (hnext : s.instructionNext = true) (hdecode : decode s.codeBytes = .instr i)
    (hexec : exec i s.advanceInputs = .next u) (hkeeps : Keeps i s.advanceInputs u) : Runs s (.executed i) u

/-- What a step of a core that has not faulted answers, before it is reported: a state of `Runs`, or a fault. -/
def Answered (s : State) (normal : StepOutcome) (u : State) : Prop :=
  Runs s normal u ∨ ∃ record, FaultOf s record ∧ u = s.advanceInputs.raise record

theorem Answers.answered {s t v : State} {l : List (Word × AccessKind)} {normal : StepOutcome}
    (h : Answers (.next t) s.advanceInputs l v) (hruns : (∀ x ∈ l, x.1.toNat < s.mem.size) → Runs s normal v) :
    Answered s normal t := by
  obtain ⟨ht, hin⟩ | ⟨a, k, hout, ht⟩ := h.cases
  · rw [Host.Outcome.next.inj ht]
    exact .inl (hruns hin)
  · rw [Host.Outcome.next.inj ht]
    exact .inr ⟨_, faultOf_memoryFault k hout, rfl⟩

theorem instructionNext_of_reset {s : State} (h : s.nextInputs.reset = true) : s.instructionNext = false := by
  simp [State.instructionNext, h]

theorem instructionNext_of_nmiNext {s : State} (h : s.nmiNext = true) : s.instructionNext = false := by
  simp only [State.nmiNext, Bool.and_eq_true, Bool.or_eq_true] at h
  obtain ⟨-, h | h⟩ := h <;> simp [State.instructionNext, h]

theorem instructionNext_of_intNext {s : State} (h : s.intNext = true) : s.instructionNext = false := by
  simp only [State.intNext, Bool.and_eq_true, Bool.not_eq_true'] at h
  obtain ⟨⟨⟨-, hreq⟩, hiff1⟩, hshadow⟩ := h
  simp [State.instructionNext, State.acceptsInt, hreq, hiff1, hshadow]

theorem instructionNext_of_halted {s : State} (h : s.run = .halted) : s.instructionNext = false := by
  simp [State.instructionNext, h]

theorem faultOf_unimplemented (s : State) (reason : UnimplementedReason) (pc : Word) (bytes : List Byte) :
    FaultOf s (.unimplemented reason pc bytes) := nofun

theorem faultOf_illegalInstruction (s : State) (pc : Word) (bytes : List Byte) :
    FaultOf s (.illegalInstruction pc bytes) := nofun

theorem intResponse_answered {s : State} (hint : s.intNext = true) :
    Answered s .intTaken (s.advanceInputs.intResponse s.nextInputs.busByte) := by
  rw [State.intResponse]
  split
  · exact .inr ⟨_, faultOf_unimplemented _ _ _ _, rfl⟩
  · next hrefuse =>
    obtain ⟨-, -, -, hpending⟩ := intNext_imp hint
    exact (intTransfer_answers (Bool.eq_false_iff.mpr hrefuse)).answered fun hin =>
      .int (instructionNext_of_intNext hint) hpending fun x hx => hin x (List.mem_append_left _ hx)

theorem instruction_answered {s : State} (hnext : s.instructionNext = true) :
    ∃ normal u, step s = .next (u.report normal) ∧ Answered s normal u := by
  by_cases hpc : s.mem.size ≤ s.pc.toNat
  · exact ⟨_, _, step_of_fetch_outside hnext hpc, .inr ⟨_, faultOf_memoryFault .fetch hpc, rfl⟩⟩
  · have hpc := Nat.not_le.mp hpc
    cases hdecode : decode s.codeBytes with
    | illegal read =>
      exact ⟨_, _, step_of_illegal hnext hpc hdecode, .inr ⟨_, faultOf_illegalInstruction _ _ _, rfl⟩⟩
    | instr i =>
      have hstep := step_of_instr hnext hpc hdecode
      have heffect := exec_effect i s.advanceInputs
      generalize hexec : exec i s.advanceInputs = o at heffect hstep
      cases heffect with
      | completes hkeeps => exact ⟨_, _, hstep, .inl (.executed hnext hdecode hexec hkeeps)⟩
      | faults hfault => exact ⟨_, _, hstep, .inr ⟨_, hfault, rfl⟩⟩

/-- Every step of a core that has not faulted, by the cases of its priority. -/
theorem step_answered {s : State} (halive : s.alive = true) :
    ∃ normal u, step s = .next (u.report normal) ∧ Answered s normal u := by
  obtain hreset | hnmi | hint | ⟨hrun, hreset, hnmi, hint⟩ | hnext := priority_cases halive
  · exact ⟨_, _, step_of_reset halive hreset, .inl (.reset (instructionNext_of_reset hreset))⟩
  · exact ⟨_, _, step_of_nmiNext hnmi, (nmiResponse_answers s.advanceInputs s.nextInputs).answered fun hin =>
      .nmi (instructionNext_of_nmiNext hnmi) hin⟩
  · exact ⟨_, _, step_of_intNext hint, intResponse_answered hint⟩
  · exact ⟨_, _, step_of_halted hrun hreset hnmi hint, .inl (.idle (instructionNext_of_halted hrun) hrun
      (pending_of_not_nmiNext halive hreset hnmi).1)⟩
  · exact instruction_answered hnext

/-! ### What `Runs` leaves -/

theorem Keeps.run_of_running {i : Instr} {s t : State} (h : Keeps i s t) (hrun : s.run = .running) :
    t.run = .running ∨ t.run = .halted := by
  have hafter := specialAfter_run s i
  rw [← h.special] at hafter
  obtain hsame | ⟨-, hhalted⟩ := hafter
  · exact .inl (hsame.trans hrun)
  · exact .inr hhalted

theorem Runs.alive {s u : State} {normal : StepOutcome} (h : Runs s normal u) : u.alive = true := by
  cases h with
  | reset | nmi | int => rfl
  | idle _ hrun => exact alive_of_halted hrun
  | executed hnext _ _ hkeeps =>
    obtain hrun | hhalted := hkeeps.run_of_running (instructionNext_imp hnext).1
    · exact alive_of_running hrun
    · exact alive_of_halted hhalted

theorem Runs.nmiPending {s u : State} {normal : StepOutcome} (h : Runs s normal u) : u.nmiPending = false := by
  cases h with
  | reset | nmi => rfl
  | int _ hpending | idle _ _ hpending => exact hpending
  | @executed i _ hnext _ _ hkeeps =>
    have hkept := specialAfter_nmiPending s.advanceInputs i
    rw [← hkeeps.special] at hkept
    exact hkept.trans (instructionNext_imp hnext).2

theorem Runs.size {s u : State} {normal : StepOutcome} (h : Runs s normal u) : u.mem.size = s.mem.size := by
  cases h with
  | reset | nmi | int | idle => rfl
  | executed _ _ _ hkeeps => exact hkeeps.size

theorem inv_iff (s : State) : s.inv = true ↔ s.mem.wf = true ∧ (s.iff1 = true → s.iff2 = true) := by
  cases h1 : s.iff1 <;> simp [State.inv, h1]

theorem entered_wf {s : State} (target : Word) (hin : ∀ x ∈ s.pushWrites, x.1.toNat < s.mem.size)
    (hwf : s.mem.wf = true) : (s.entered target).mem.wf = true := by
  have hhigh : (s.sp - 1).toNat < s.mem.size := hin (s.sp - 1, .write) (by simp [State.pushWrites])
  have hlow : (s.sp - 2).toNat < s.mem.size := hin (s.sp - 2, .write) (by simp [State.pushWrites])
  exact Memory.wf_set _ hlow (Memory.wf_set _ hhigh hwf)

theorem Keeps.inv {i : Instr} {s t : State} (h : Keeps i s t) (hinv : s.inv = true) : t.inv = true := by
  obtain ⟨hwf, hiff⟩ := (inv_iff s).mp hinv
  have hle := specialAfter_iff1_le_iff2 i hiff
  rw [← h.special] at hle
  exact (inv_iff t).mpr ⟨h.wf hwf, hle⟩

theorem Runs.inv {s u : State} {normal : StepOutcome} (h : Runs s normal u) (hinv : s.inv = true) :
    u.inv = true := by
  obtain ⟨hwf, hiff⟩ := (inv_iff s).mp hinv
  cases h with
  | reset => exact (inv_iff _).mpr ⟨hwf, nofun⟩
  | nmi _ hin | int _ _ hin => exact (inv_iff _).mpr ⟨entered_wf s.pc hin hwf, nofun⟩
  | idle => exact hinv
  | executed _ _ _ hkeeps => exact hkeeps.inv hinv

/-- RETI is reported exactly when it was executed. -/
theorem Runs.reti_iff {s u : State} {normal : StepOutcome} (h : Runs s normal u) :
    normal = .executed .reti ↔ s.instructionNext = true ∧ decode s.codeBytes = .instr .reti := by
  cases h with
  | reset hnot | nmi hnot | int hnot | idle hnot => simp [hnot]
  | executed hnext hdecode => simp [hnext, hdecode]

theorem Runs.code {s u : State} {normal : StepOutcome} (h : Runs s normal u) : normal.code = 0 := by
  cases h <;> rfl

/-! ### The rules -/

/-- The next state of a core that has not faulted: reported on a state of `Runs`, or with a fault raised. -/
theorem step_next {s t : State} (halive : s.alive = true) (hstep : step s = .next t) :
    (∃ normal u, Runs s normal u ∧ t = u.report normal ∧ t.outcome = some normal) ∨
      ∃ record normal, FaultOf s record ∧ t = (s.advanceInputs.raise record).report normal := by
  obtain ⟨normal, u, heq, hanswered⟩ := step_answered halive
  have ht : t = u.report normal := (Host.Outcome.next.inj (heq.symm.trans hstep)).symm
  obtain hruns | ⟨record, hfault, rfl⟩ := hanswered
  · exact .inl ⟨normal, u, hruns, ht, ht ▸ report_outcome_of_alive hruns.alive normal⟩
  · exact .inr ⟨record, normal, hfault, ht⟩

theorem step_next_of_not_alive {s t : State} (halive : s.alive = false) (hstep : step s = .next t) :
    t = { s.advanceInputs with outcome := some .stuck } :=
  (Host.Outcome.next.inj ((step_of_not_alive halive).symm.trans hstep)).symm

/-- Settles O10: every case of a step keeps both halves of the invariant. -/
theorem stepKeepsInvariant : Obligations.StepKeepsInvariant := by
  intro s t hinv hstep
  cases halive : s.alive with
  | false =>
    rw [step_next_of_not_alive halive hstep]
    exact hinv
  | true =>
    obtain ⟨normal, u, hruns, rfl, -⟩ | ⟨record, normal, -, rfl⟩ := step_next halive hstep
    · exact hruns.inv hinv
    · exact hinv

/-- Settles O8: only a raised fault leaves the core Faulted. -/
theorem faultsArePreciseAndSticky : Obligations.FaultsArePreciseAndSticky := by
  refine ⟨fun s t halive hstep hdead => ?_, fun s hdead => ⟨_, step_of_not_alive hdead, rfl, rfl⟩⟩
  obtain ⟨normal, u, hruns, rfl, -⟩ | ⟨record, normal, -, rfl⟩ := step_next halive hstep
  · exact absurd hruns.alive (Bool.eq_false_iff.mp hdead)
  · exact ⟨record, rfl, rfl⟩

theorem not_faulted_of_alive {s : State} (h : s.alive = true) (record : Fault) : s.run ≠ .faulted record := by
  intro hrun
  simp [State.alive, hrun] at h

/-- Settles O9: the record of a fault names the access that was outside. -/
theorem memoryFaultIsOutsideTheBuffer : Obligations.MemoryFaultIsOutsideTheBuffer := by
  intro s t halive hstep addr kind pc0 hrun
  obtain ⟨normal, u, hruns, rfl, -⟩ | ⟨record, normal, hfault, rfl⟩ := step_next halive hstep
  · exact absurd hrun (not_faulted_of_alive hruns.alive _)
  · obtain ⟨hout, hpc0⟩ := hfault addr kind pc0 (RunState.faulted.inj hrun)
    have haddr : addr.toNat < 65536 := addr.isLt
    exact ⟨hout, hpc0, fun hsize => by omega⟩

/-- Settles O12: an edge is consumed by the NMI response or discarded by RESET; the other cases start without one. -/
theorem nmiLatchIsNeverLeftSet : Obligations.NmiLatchIsNeverLeftSet := by
  intro s t hstep ht
  cases halive : s.alive with
  | false =>
    rw [step_next_of_not_alive halive hstep] at ht
    exact absurd ht (Bool.eq_false_iff.mp halive)
  | true =>
    obtain ⟨normal, u, hruns, rfl, -⟩ | ⟨record, normal, -, rfl⟩ := step_next halive hstep
    · exact hruns.nmiPending
    · cases ht

theorem haltedOutput_iff (t : State) : t.haltedOutput = true ↔ t.run = .halted := by
  simp [State.haltedOutput]

theorem retiOutput_iff (t : State) : t.retiOutput = true ↔ t.outcome = some (.executed .reti) := by
  simp [State.retiOutput]

theorem faultOutput_of_alive {t : State} (h : t.alive = true) : t.faultOutput = none := by
  unfold State.faultOutput
  split
  · next hrun _ => exact absurd hrun (not_faulted_of_alive h _)
  · rfl

theorem Fault.outcome_code (record : Fault) : record.outcome.code = record.code := by
  cases record <;> rfl

theorem Fault.outcome_ne_executed (record : Fault) (i : Instr) : record.outcome ≠ .executed i := by
  cases record <;> exact nofun

theorem Fault.outcome_ne_stuck (record : Fault) : record.outcome ≠ .stuck := by
  cases record <;> exact nofun

theorem faultOutput_of_faulted {t : State} {record : Fault} (hrun : t.run = .faulted record)
    (ho : t.outcome = some record.outcome) : t.faultOutput = some record := by
  simp [State.faultOutput, hrun, ho]

theorem faultOutput_of_stuck {t : State} {record : Fault} (hrun : t.run = .faulted record)
    (ho : t.outcome = some .stuck) : t.faultOutput = none := by
  simp [State.faultOutput, hrun, ho, (Fault.outcome_ne_stuck record).symm]

theorem exists_step (s : State) : ∃ t, step s = .next t := by
  cases halive : s.alive with
  | false => exact ⟨_, step_of_not_alive halive⟩
  | true =>
    obtain ⟨normal, u, hstep, -⟩ := step_answered halive
    exact ⟨_, hstep⟩

/-- Settles O6: a core that was Faulted answers Stuck; any other step is reported on a state of `Runs` or on a fault. -/
theorem everyStepHasOneOutcome : Obligations.EveryStepHasOneOutcome := by
  intro s
  obtain ⟨t, hstep⟩ := exists_step s
  cases halive : s.alive with
  | false =>
    obtain ⟨record, hrun⟩ := exists_record_of_not_alive halive
    have ht := step_next_of_not_alive halive hstep
    have htrun : t.run = .faulted record := ht ▸ hrun
    have houtcome : t.outcome = some .stuck := by rw [ht]
    have hdead : t.alive = false := by rw [ht]; exact halive
    refine ⟨t, .stuck, hstep, houtcome, by rw [ht]; rfl, by simp [hdead], nofun,
      fun _ => ⟨rfl, faultOutput_of_stuck htrun houtcome⟩, haltedOutput_iff t, ?_⟩
    rw [retiOutput_iff, houtcome, hdead]
    simp
  | true =>
    obtain ⟨normal, u, hruns, rfl, houtcome⟩ | ⟨record, normal, hfault, rfl⟩ := step_next halive hstep
    · refine ⟨_, normal, hstep, houtcome, hruns.size, fun halive => ⟨hruns.code, faultOutput_of_alive halive⟩,
        fun _ record hrun => absurd hrun (not_faulted_of_alive hruns.alive record), nofun, haltedOutput_iff _, ?_⟩
      rw [retiOutput_iff, houtcome, Option.some_inj, hruns.reti_iff]
      exact ⟨fun h => ⟨hruns.alive, h⟩, fun h => h.2⟩
    · refine ⟨_, record.outcome, hstep, rfl, rfl, nofun, ?_, nofun, haltedOutput_iff _, ?_⟩
      · rintro - _ ⟨⟩
        exact ⟨rfl, Fault.outcome_code record, faultOutput_of_faulted rfl rfl⟩
      · rw [retiOutput_iff]
        exact ⟨fun h => absurd (Option.some_inj.mp h) (Fault.outcome_ne_executed record .reti), nofun⟩

theorem nmiNext_outcome {s t : State} (hnmi : s.nmiNext = true) (hstep : step s = .next t) :
    t.outcome = some .nmiTaken ∨ t.outcome = some .memoryFault := by
  obtain ⟨t', hstep', h⟩ := nmiResponse s hnmi
  rw [Host.Outcome.next.inj (hstep.symm.trans hstep')]
  split at h
  · exact .inl h.1
  · exact .inr h.1

theorem intNext_outcome {s t : State} (hint : s.intNext = true) (hstep : step s = .next t) :
    t.outcome = some .intTaken ∨ t.outcome = some .unimplemented ∨ t.outcome = some .memoryFault := by
  obtain ⟨t', hstep', h⟩ := intResponse s hint
  rw [Host.Outcome.next.inj (hstep.symm.trans hstep')]
  dsimp only at h
  split at h
  · exact .inr (.inl h.1)
  · split at h
    · exact .inl h.1
    · exact .inr (.inr h.1)

theorem instructionNext_outcome {s t : State} (hnext : s.instructionNext = true) (hstep : step s = .next t) :
    (∃ i, t.outcome = some (.executed i)) ∨ t.outcome = some .illegalInstruction ∨
      t.outcome = some .unimplemented ∨ t.outcome = some .memoryFault := by
  have halive := alive_of_running (instructionNext_imp hnext).1
  obtain ⟨normal, u, hruns, -, houtcome⟩ | ⟨record, normal, -, rfl⟩ := step_next halive hstep
  · cases hruns with
    | reset hnot | nmi hnot | int hnot | idle hnot => exact absurd hnext (Bool.eq_false_iff.mp hnot)
    | @executed i => exact .inl ⟨i, houtcome⟩
  · cases record with
    | illegalInstruction => exact .inr (.inl rfl)
    | unimplemented => exact .inr (.inr (.inl rfl))
    | memoryFault => exact .inr (.inr (.inr rfl))

/-- Settles O7: each case of the priority by its own equation of the step. -/
theorem stepPriority : Obligations.StepPriority := by
  intro s t hstep
  refine ⟨fun hdead => ?_, fun halive hreset => ?_, fun hnmi => nmiNext_outcome hnmi hstep,
    fun hint => intNext_outcome hint hstep, fun _ hreset hnmi hint => ⟨fun hrun => ?_, fun hrun => ?_⟩⟩
  · rw [step_next_of_not_alive hdead hstep]
  · rw [Host.Outcome.next.inj (hstep.symm.trans (step_of_reset halive hreset))]
    rfl
  · rw [Host.Outcome.next.inj (hstep.symm.trans (step_of_halted hrun hreset hnmi hint))]
    exact report_outcome_of_halted hrun .idle
  · have hnext := instructionNext_of_running hrun hreset hnmi hint
    exact ⟨hnext, instructionNext_outcome hnext hstep⟩

end Sys2Proof.Machine
end

section
/-! EI defers the interrupt, and RETN resumes what an NMI interrupted (60_exceptions.md R515, R518, R525). -/

namespace Sys2Proof.Machine

theorem outcome_ne_intTaken {s t : State} (halive : s.alive = true) (hint : s.intNext = false)
    (hstep : step s = .next t) : t.outcome ≠ some .intTaken := by
  obtain hreset | hnmi | htaken | ⟨hrun, hreset, hnmi, -⟩ | hnext := priority_cases halive
  · obtain ⟨-, h, -⟩ := stepPriority s t hstep
    simp [h halive hreset]
  · obtain h | h := nmiNext_outcome hnmi hstep <;> simp [h]
  · exact absurd htaken (Bool.eq_false_iff.mp hint)
  · obtain ⟨-, -, -, -, h⟩ := stepPriority s t hstep
    obtain ⟨hidle, -⟩ := h halive hreset hnmi hint
    simp [hidle hrun]
  · obtain ⟨i, h⟩ | h | h | h := instructionNext_outcome hnext hstep <;> simp [h]

/-- What a step that executed an instruction leaves. -/
theorem keeps_of_executed {s t : State} {i : Instr} (halive : s.alive = true) (hstep : step s = .next t)
    (houtcome : t.outcome = some (.executed i)) :
    s.instructionNext = true ∧ ∃ u, Keeps i s.advanceInputs u ∧ t = u.report (.executed i) := by
  obtain ⟨normal, u, hruns, ht, hnormal⟩ | ⟨record, normal, -, rfl⟩ := step_next halive hstep
  · obtain rfl := Option.some_inj.mp (hnormal.symm.trans houtcome)
    cases hruns with
    | executed hnext _ _ hkeeps => exact ⟨hnext, u, hkeeps, ht⟩
  · exact absurd (Option.some_inj.mp houtcome) (Fault.outcome_ne_executed record i)

/-- Settles O24: EI leaves the shadow set, so R519 does not accept, and no NMI latched, so the instruction is next. -/
theorem eiDefersTheInterrupt : Obligations.EiDefersTheInterrupt := by
  intro s t u halive hstep hei hstep'
  obtain ⟨hnext, v, hkeeps, rfl⟩ := keeps_of_executed halive hstep hei
  obtain ⟨hrun, hpending⟩ := instructionNext_imp hnext
  have hiff1 : v.iff1 = true := congrArg State.iff1 hkeeps.special
  have hiff2 : v.iff2 = true := congrArg State.iff2 hkeeps.special
  have hshadow : v.eiShadow = true := congrArg State.eiShadow hkeeps.special
  have hvrun : v.run = .running := (congrArg State.run hkeeps.special).trans hrun
  have hvpending : v.nmiPending = false := (congrArg State.nmiPending hkeeps.special).trans hpending
  have hint : (v.report (.executed .ei)).intNext = false := by
    simp [State.intNext, State.report, hshadow]
  have halive' : (v.report (.executed .ei)).alive = true := alive_of_running hvrun
  refine ⟨hiff1, hiff2, outcome_ne_intTaken halive' hint hstep', fun hreset hedge => ?_⟩
  have hnmi : (v.report (.executed .ei)).nmiNext = false := by
    rw [State.nmiNext, hedge]
    simp [State.report, hvpending]
  exact instructionNext_of_running hvrun hreset hnmi hint

/-- The state in the handler of an NMI that was taken. -/
theorem nmiTaken_eq {s t : State} (halive : s.alive = true) (hstep : step s = .next t)
    (houtcome : t.outcome = some .nmiTaken) :
    t = s.advanceInputs.inNmi.report .nmiTaken ∧ ∀ x ∈ s.pushWrites, x.1.toNat < s.mem.size := by
  obtain ⟨normal, u, hruns, ht, hnormal⟩ | ⟨record, normal, -, rfl⟩ := step_next halive hstep
  · obtain rfl := Option.some_inj.mp (hnormal.symm.trans houtcome)
    cases hruns with
    | nmi _ hin => exact ⟨ht, hin⟩
  · cases record <;> cases houtcome

/-! ### A pop after a push -/

theorem sp_sub_two_add_one (v : Word) : v - 2 + 1 = v - 1 := by bv_omega

theorem sub_one_toNat_ne_sub_two (v : Word) : (v - 1).toNat ≠ (v - 2).toNat := by
  intro h
  have h : v - 1 = v - 2 := BitVec.eq_of_toNat_eq h
  bv_omega

/-- The word pushed is what the stack pointer then points at. -/
theorem wordAt_of_pushed {s t : State} {v : Word} (h : pushed s t v) : t.wordAt t.sp = v := by
  obtain ⟨hsp, -, hget⟩ := h
  have hlow : t.mem.get (s.sp - 2).toNat = loByte v := by
    rw [hget, if_pos rfl, ofNat_mod_eq_loByte]
  have hhigh : t.mem.get (s.sp - 1).toNat = hiByte v := by
    rw [hget, if_neg (sub_one_toNat_ne_sub_two s.sp), if_pos rfl, ofNat_div_eq_hiByte]
  rw [hsp, wordAt_eq_promote, sp_sub_two_add_one, hlow, hhigh, promote_hiByte_loByte]

/-- The reads of the pop are inside the buffer because the writes of the push were. -/
theorem popReads_of_pushed {s t : State} {v : Word} (h : pushed s t v)
    (hin : ∀ x ∈ s.pushWrites, x.1.toNat < s.mem.size) : t.firstOutside t.popReads = none := by
  obtain ⟨hsp, hsize, -⟩ := h
  have hhigh : (s.sp - 1).toNat < s.mem.size := hin (s.sp - 1, .write) (by simp [State.pushWrites])
  have hlow : (s.sp - 2).toNat < s.mem.size := hin (s.sp - 2, .write) (by simp [State.pushWrites])
  rw [State.popReads, hsp, sp_sub_two_add_one, firstOutside_cons, firstOutside_cons, hsize,
    if_neg (Nat.not_le.mpr hlow), if_neg (Nat.not_le.mpr hhigh)]
  rfl

/-- Settles O25: the return address is where the NMI response pushed it, and RETN pops it. -/
theorem retnResumesAfterNmi : Obligations.RetnResumesAfterNmi := by
  intro s t _ hnmi hstep houtcome
  simp only [State.nmiNext, Bool.and_eq_true] at hnmi
  obtain ⟨⟨halive, -⟩, -⟩ := hnmi
  obtain ⟨ht, hin⟩ := nmiTaken_eq halive hstep houtcome
  have hpushed : pushed s t s.pc := ht ▸ entered_pushed s Config.nmiVector
  have hanswers : Answers (exec .retn t) t t.popReads _ := frame_returnFromHandler_answers .retn t
  rw [Answers, popReads_of_pushed hpushed hin] at hanswers
  have hword := wordAt_of_pushed hpushed
  obtain ⟨hsp, hstores⟩ := hpushed
  refine ⟨_, hanswers, ?_, ?_⟩
  · rw [State.returnNext, hword, hsp, BitVec.sub_add_cancel, ht]
    simp only [State.arch, State.after, State.report, State.inNmi, State.entered]
    rfl
  · rwa [ofNat_div_eq_hiByte, ofNat_mod_eq_loByte] at hstores

theorem stackReg_put_keeps (reg : StackReg) (t : State) (w : Word) :
    (reg.put t w).sp = t.sp ∧ (reg.put t w).mem = t.mem ∧ (reg.put t w).run = t.run := by
  match reg with
  | .qq .bc | .qq .de | .qq .hl | .qq .af | .idx .ix | .idx .iy => exact ⟨rfl, rfl, rfl⟩

theorem alive_of_run {s t : State} (h : t.run = s.run) (hs : s.alive = true) : t.alive = true := by
  rwa [State.alive, h]

theorem popNext_keeps (reg : StackReg) (u : State) :
    (reg.popNext u).sp = u.sp + 2 ∧ (reg.popNext u).mem = u.mem ∧ (reg.popNext u).run = u.run := by
  obtain ⟨-, hmem, hrun⟩ := stackReg_put_keeps reg (u.after reg.pop) (u.wordAt u.sp)
  exact ⟨rfl, hmem, hrun⟩

/-- Settles O54: what the register holds meanwhile touches neither SP nor the word pushed. -/
theorem popUndoesPush : Obligations.PopUndoesPush := by
  intro reg s t u v w _ hpush htalive hu hpop
  obtain ⟨hout, hin⟩ | ⟨a, k, -, hout⟩ := (stackReg_push_answers reg s).cases
  · obtain ⟨hsp, hmem, hrun⟩ := stackReg_put_keeps reg t w
    rw [← hu] at hsp hmem hrun
    have ht : t = s.pushNext reg.push (reg.get s) := Host.Outcome.next.inj (hpush.symm.trans hout)
    have hpushed : pushed s u (reg.get s) := by
      rw [pushed, stores2, hsp, hmem, ht]
      exact pushNext_pushed s reg.push (reg.get s)
    have hanswers := stackReg_pop_answers reg u
    rw [Answers, popReads_of_pushed hpushed hin, hpop] at hanswers
    obtain rfl := Host.Outcome.next.inj hanswers
    obtain ⟨hvsp, hvmem, hvrun⟩ := popNext_keeps reg u
    have hword := wordAt_of_pushed hpushed
    obtain ⟨husp, -⟩ := hpushed
    refine ⟨alive_of_run (hvrun.trans hrun) htalive, ?_, ?_, hvmem.trans hmem⟩
    · rw [stackReg_get_popNext, hword]
    · rw [hvsp, husp, BitVec.sub_add_cancel]
  · rw [Host.Outcome.next.inj (hpush.symm.trans hout)] at htalive
    cases htalive

end Sys2Proof.Machine
end

section
/-! The builder (70_reset_and_hazards.md R550): each setter writes one field, so a sequence of setters acts on the
fields as a sequence of function updates. -/

namespace Sys2Proof.Machine

/-! ### A memory in canonical form is its bytes -/

theorem lookupCell_of_mem {l : List Host.Cell} {a : Nat} {v : Byte} (hl : l.Pairwise (fun x y => x.1 < y.1))
    (h : (a, v) ∈ l) : lookupCell l a = v := by
  induction l with
  | nil => cases h
  | cons x rest ih =>
    obtain ⟨hx, hrest⟩ := List.pairwise_cons.mp hl
    rcases List.mem_cons.mp h with rfl | hmem
    · simp [lookupCell]
    · have hne : x.1 ≠ a := Nat.ne_of_lt (hx (a, v) hmem)
      exact (if_neg hne).trans (ih hrest hmem)

theorem mem_of_lookupCell_ne_zero {l : List Host.Cell} {a : Nat} (h : lookupCell l a ≠ 0) :
    (a, lookupCell l a) ∈ l := by
  induction l with
  | nil => exact absurd rfl h
  | cons x rest ih =>
    obtain ⟨k, w⟩ := x
    by_cases hk : k = a
    · simp [lookupCell, hk]
    · simp only [lookupCell, if_neg hk] at h ⊢
      exact List.mem_cons_of_mem _ (ih h)

theorem Memory.wf_iff (m : Memory) :
    m.wf = true ↔ 1 ≤ m.size ∧ m.size ≤ 65536 ∧ m.cells.Pairwise (fun x y => x.1 < y.1) ∧
      ∀ x ∈ m.cells, x.1 < m.size ∧ x.2 ≠ 0 := by
  simp [Memory.wf, cellsSorted_iff, and_assoc]

theorem Memory.mem_cells_iff {m : Memory} (hwf : m.wf = true) (x : Host.Cell) :
    x ∈ m.cells ↔ x.1 < m.size ∧ x.2 ≠ 0 ∧ m.get x.1 = x.2 := by
  obtain ⟨-, -, hsorted, hcells⟩ := m.wf_iff.mp hwf
  constructor
  · intro hx
    obtain ⟨hlt, hne⟩ := hcells x hx
    exact ⟨hlt, hne, lookupCell_of_mem hsorted hx⟩
  · rintro ⟨-, hne, hget⟩
    have hget : lookupCell m.cells x.1 = x.2 := hget
    have h := mem_of_lookupCell_ne_zero (l := m.cells) (a := x.1) (by rwa [hget])
    rwa [hget] at h

theorem Memory.eq_of_get {m n : Memory} (hm : m.wf = true) (hn : n.wf = true) (hsize : m.size = n.size)
    (hget : ∀ a < m.size, m.get a = n.get a) : m = n := by
  obtain ⟨-, -, hm', -⟩ := m.wf_iff.mp hm
  obtain ⟨-, -, hn', -⟩ := n.wf_iff.mp hn
  have hcells : m.cells = n.cells := by
    refine List.Perm.eq_of_pairwise (fun x y _ _ hxy hyx => absurd hxy (Nat.lt_asymm hyx)) hm' hn' ?_
    refine (List.perm_ext_iff_of_nodup (hm'.imp fun h => ?_) (hn'.imp fun h => ?_)).mpr fun x => ?_
    · exact fun he => absurd h (he ▸ Nat.lt_irrefl _)
    · exact fun he => absurd h (he ▸ Nat.lt_irrefl _)
    · rw [m.mem_cells_iff hm, n.mem_cells_iff hn, hsize]
      refine and_congr_right fun hlt => ?_
      rw [hget _ (hsize ▸ hlt)]
  cases m
  cases n
  simp_all

/-! ### The fields -/

/-- What a field of the state holds. -/
inductive Content where
  | byte (v : Byte)
  | word (v : Word)
  | flag (v : Bool)
  | mode (v : IntMode)
  | run (v : RunState)

def State.shadow8 (s : State) : Reg8 → Byte
  | .b => s.b'
  | .c => s.c'
  | .d => s.d'
  | .e => s.e'
  | .h => s.h'
  | .l => s.l'
  | .a => s.a'

def State.content (s : State) : BuilderField → Content
  | .reg8 r => .byte (s.reg8 r)
  | .f => .byte s.f
  | .shadow8 r => .byte (s.shadow8 r)
  | .shadowF => .byte s.f'
  | .ix => .word s.ix
  | .iy => .word s.iy
  | .sp => .word s.sp
  | .pc => .word s.pc
  | .i => .byte s.i
  | .r => .byte s.r
  | .iff1 => .flag s.iff1
  | .iff2 => .flag s.iff2
  | .im => .mode s.im
  | .run => .run s.run
  | .eiShadow => .flag s.eiShadow
  | .nmiPending => .flag s.nmiPending
  | .byte a => .byte (s.mem.get a.toNat)

def Setting.content : Setting → Content
  | .reg8 _ v | .f v | .shadow8 _ v | .shadowF v | .i v | .r v | .byte _ v => .byte v
  | .ix v | .iy v | .sp v | .pc v => .word v
  | .iff1 v | .iff2 v | .eiShadow v | .nmiPending v => .flag v
  | .im v => .mode v
  | .run v => .run v

/-- A setter of a byte outside the buffer (notes/assumptions/8.md). -/
def Setting.outside (memSize : Nat) : Setting → Bool
  | .byte a _ => decide (memSize ≤ a.toNat)
  | _ => false

theorem apply_of_outside {x : Setting} {s : State} (h : x.outside s.mem.size = true) : x.apply s = s := by
  cases x with
  | byte a v => exact if_neg (Nat.not_lt.mpr (of_decide_eq_true h))
  | _ => cases h

theorem shadow8_setShadow8 (s : State) (r q : Reg8) (v : Byte) :
    (s.setShadow8 r v).shadow8 q = if q = r then v else s.shadow8 q := by
  cases r <;> cases q <;> rfl

/-- A setter is the update of its one field. -/
theorem content_apply {x : Setting} {s : State} (h : x.outside s.mem.size = false) :
    (x.apply s).content = Function.update s.content x.field x.content := by
  funext g
  rw [Function.update_apply]
  cases x with
  | reg8 r v =>
    cases g with
    | reg8 q =>
      simp only [Setting.apply, State.content, Setting.field, Setting.content, reg8_setReg8, BuilderField.reg8.injEq,
        apply_ite Content.byte]
    | _ => cases r <;> rfl
  | shadow8 r v =>
    cases g with
    | shadow8 q =>
      simp only [Setting.apply, State.content, Setting.field, Setting.content, shadow8_setShadow8,
        BuilderField.shadow8.injEq, apply_ite Content.byte]
    | _ => cases r <;> rfl
  | byte a v =>
    have ha : a.toNat < s.mem.size := Nat.not_le.mp (of_decide_eq_false h)
    have happly : (Setting.byte a v).apply s = { s with mem := s.mem.set a.toNat v } := if_pos ha
    rw [happly]
    cases g with
    | byte b =>
      simp only [State.content, Setting.field, Setting.content, Memory.get_set, BuilderField.byte.injEq,
        BitVec.toNat_inj, apply_ite Content.byte]
    | _ => rfl
  | _ => cases g <;> rfl

/-! ### A state is its fields -/

/-- The fields no setter writes, and the form of the memory. -/
structure SameRest (s t : State) : Prop where
  size : t.mem.size = s.mem.size
  inputs : t.inputs = s.inputs
  outcome : t.outcome = s.outcome
  wf : s.mem.wf = true → t.mem.wf = true

theorem sameRest_apply (x : Setting) (s : State) : SameRest s (x.apply s) := by
  cases x with
  | reg8 r v | shadow8 r v => cases r <;> exact ⟨rfl, rfl, rfl, id⟩
  | byte a v =>
    by_cases ha : a.toNat < s.mem.size
    · have happly : (Setting.byte a v).apply s = { s with mem := s.mem.set a.toNat v } := if_pos ha
      rw [happly]
      exact ⟨rfl, rfl, rfl, Memory.wf_set v ha⟩
    · have happly : (Setting.byte a v).apply s = s := if_neg ha
      rw [happly]
      exact ⟨rfl, rfl, rfl, id⟩
  | _ => exact ⟨rfl, rfl, rfl, id⟩

theorem SameRest.trans {s t u : State} (h : SameRest s t) (h' : SameRest t u) : SameRest s u :=
  ⟨h'.size.trans h.size, h'.inputs.trans h.inputs, h'.outcome.trans h.outcome, fun hwf => h'.wf (h.wf hwf)⟩

theorem mem_eq_of_content {s t : State} (hs : s.mem.wf = true) (ht : t.mem.wf = true)
    (hsize : s.mem.size = t.mem.size) (h : s.content = t.content) : s.mem = t.mem := by
  refine Memory.eq_of_get hs ht hsize fun a ha => ?_
  obtain ⟨-, hle⟩ := Memory.size_of_wf hs
  have hbyte : s.mem.get (BitVec.ofNat 16 a).toNat = t.mem.get (BitVec.ofNat 16 a).toNat :=
    Content.byte.inj (congrFun h (.byte (BitVec.ofNat 16 a)))
  rwa [BitVec.toNat_ofNat, Nat.mod_eq_of_lt (by omega)] at hbyte

/-- Two states with the same rest are equal when every field has the same content. -/
theorem eq_of_content {r s t : State} (hwf : r.mem.wf = true) (hs : SameRest r s) (ht : SameRest r t)
    (h : s.content = t.content) : s = t := by
  have hmem := mem_eq_of_content (hs.wf hwf) (ht.wf hwf) (hs.size.trans ht.size.symm) h
  have hinputs := hs.inputs.trans ht.inputs.symm
  have houtcome := hs.outcome.trans ht.outcome.symm
  have field := congrFun h
  cases s
  cases t
  rw [State.mk.injEq]
  exact ⟨Content.byte.inj (field (.reg8 .a)), Content.byte.inj (field .f), Content.byte.inj (field (.reg8 .b)),
    Content.byte.inj (field (.reg8 .c)), Content.byte.inj (field (.reg8 .d)), Content.byte.inj (field (.reg8 .e)),
    Content.byte.inj (field (.reg8 .h)), Content.byte.inj (field (.reg8 .l)), Content.byte.inj (field (.shadow8 .a)),
    Content.byte.inj (field .shadowF), Content.byte.inj (field (.shadow8 .b)), Content.byte.inj (field (.shadow8 .c)),
    Content.byte.inj (field (.shadow8 .d)), Content.byte.inj (field (.shadow8 .e)),
    Content.byte.inj (field (.shadow8 .h)), Content.byte.inj (field (.shadow8 .l)), Content.word.inj (field .ix),
    Content.word.inj (field .iy), Content.word.inj (field .sp), Content.word.inj (field .pc),
    Content.byte.inj (field .i), Content.byte.inj (field .r), Content.flag.inj (field .iff1),
    Content.flag.inj (field .iff2), Content.mode.inj (field .im), Content.run.inj (field .run),
    Content.flag.inj (field .eiShadow), Content.flag.inj (field .nmiPending), hmem, hinputs, houtcome⟩

/-! ### Sequences of setters -/

theorem apply_apply_comm {s : State} (hwf : s.mem.wf = true) {x y : Setting} (h : x.field ≠ y.field) :
    y.apply (x.apply s) = x.apply (y.apply s) := by
  have hxsize := (sameRest_apply x s).size
  have hysize := (sameRest_apply y s).size
  cases hx : x.outside s.mem.size with
  | true => rw [apply_of_outside hx, apply_of_outside (x := x) (hysize ▸ hx)]
  | false =>
    cases hy : y.outside s.mem.size with
    | true => rw [apply_of_outside hy, apply_of_outside (x := y) (hxsize ▸ hy)]
    | false =>
      refine eq_of_content hwf ((sameRest_apply x s).trans (sameRest_apply y _))
        ((sameRest_apply y s).trans (sameRest_apply x _)) ?_
      rw [content_apply (hxsize ▸ hy), content_apply hx, content_apply (hysize ▸ hx), content_apply hy,
        Function.update_comm h]

theorem outside_of_field {x y : Setting} (h : x.field = y.field) (n : Nat) : x.outside n = y.outside n := by
  cases x with
  | byte a v =>
    cases y with
    | byte b w =>
      obtain rfl := BuilderField.byte.inj h
      rfl
    | _ => cases h
  | _ =>
    cases y with
    | byte b w => cases h
    | _ => rfl

theorem apply_apply_same {s : State} (hwf : s.mem.wf = true) {x y : Setting} (h : x.field = y.field) :
    y.apply (x.apply s) = y.apply s := by
  have hxsize := (sameRest_apply x s).size
  cases hx : x.outside s.mem.size with
  | true => rw [apply_of_outside hx]
  | false =>
    have hy : y.outside s.mem.size = false := (outside_of_field h s.mem.size).symm.trans hx
    refine eq_of_content hwf ((sameRest_apply x s).trans (sameRest_apply y _)) (sameRest_apply y s) ?_
    rw [content_apply (hxsize ▸ hy), content_apply hx, content_apply hy, h, Function.update_idem]

theorem wf_build {memSize : Nat} (hpos : 1 ≤ memSize) (hle : memSize ≤ 65536) (l : List Setting) :
    (build memSize l).mem.wf = true := by
  induction l using List.reverseRecOn with
  | nil => simp [build, State.blank, Memory.wf, hpos, hle, cellsSorted]
  | append_singleton l x ih =>
    rw [build, List.foldl_append]
    exact (sameRest_apply x _).wf ih

/-- Settles O20: setters of one field update the same field, setters of different fields update different ones. -/
theorem builderSettersCommute : Obligations.BuilderSettersCommute := by
  intro memSize before after x y hpos hle
  have hwf := wf_build hpos hle before
  simp only [build, List.foldl_append, List.foldl_cons, List.foldl_nil]
  exact ⟨fun hne => by rw [← build, apply_apply_comm hwf hne],
    fun heq => by rw [← build, apply_apply_same hwf heq]⟩

end Sys2Proof.Machine
end

section
/-! The words of every family, the construction state, and the half-carry tables (30_encoding.md R126 to R132;
10_state.md R30, R43). -/

namespace Sys2Proof.Machine

/-- Settles O1: each word by running the decoder. -/
theorem decodedWordsAreRight : Obligations.DecodedWordsAreRight := by
  exact ⟨rfl, rfl, rfl, rfl, rfl, rfl, rfl, rfl, rfl, rfl, rfl, rfl, rfl, rfl, rfl, rfl, rfl, rfl, rfl, rfl, rfl,
    rfl, rfl, rfl, rfl, rfl, rfl, rfl, rfl⟩

/-- Settles O11: the construction state lists no byte of memory, so each reads 0. -/
theorem resetStateMeetsInvariant : Obligations.ResetStateMeetsInvariant := by
  exact ⟨by decide, fun r => by cases r <;> rfl, rfl, rfl, rfl, rfl, rfl, rfl, rfl, rfl, rfl, rfl, rfl, rfl, rfl, rfl,
    rfl, rfl, rfl, rfl, rfl, rfl, rfl, rfl, fun _ => rfl⟩

/-! ### The half-carry tables -/

theorem getLsbD_eq_decide {w : Nat} (v : BitVec w) (k : Nat) : v.getLsbD k = decide (v.toNat / 2 ^ k % 2 = 1) :=
  Nat.testBit_eq_decide_div_mod_eq

theorem decide_odd_xor (m n : Nat) :
    (decide (m % 2 = 1) ^^ decide (n % 2 = 1)) = decide ((m + n) % 2 = 1) := by
  rcases Nat.mod_two_eq_zero_or_one m with hm | hm <;> rcases Nat.mod_two_eq_zero_or_one n with hn | hn <;>
    simp [hm, hn, Nat.add_mod]

/-- Bit 4 of `a xor b xor r` tells whether an odd number of the three bits are set. -/
theorem xor_xor_bit4 (a b r : Byte) :
    (a ^^^ b ^^^ r).getLsbD 4 = decide ((a.toNat / 16 + b.toNat / 16 + r.toNat / 16) % 2 = 1) := by
  rw [BitVec.getLsbD_xor, BitVec.getLsbD_xor, getLsbD_eq_decide, getLsbD_eq_decide, getLsbD_eq_decide,
    decide_odd_xor, decide_odd_xor]
  rfl

/-- The table of additions: a carry out of bit 3 is a majority, told from the result bit (R43). -/
theorem addTable_eq (x y z : Bool) :
    [false, true, true, true, false, false, false, true].getD (x.toNat + 2 * y.toNat + 4 * z.toNat) false =
      (x && y || (x || y) && !z) := by
  cases x <;> cases y <;> cases z <;> rfl

/-- The table of subtractions: a borrow into bit 3 the same way (R43). -/
theorem subTable_eq (x y z : Bool) :
    [false, false, true, false, true, false, true, true].getD (x.toNat + 2 * y.toNat + 4 * z.toNat) false =
      (!x && (y || z) || y && z) := by
  cases x <;> cases y <;> cases z <;> rfl

theorem bit3_eq_decide (v : Byte) : v.getLsbD 3 = decide (v.toNat % 16 / 8 = 1) := by
  rw [getLsbD_eq_decide, decide_eq_decide]
  omega

/-- A digit sum with its carry-in passes 15 exactly when two of the three bits 3 tell so. -/
theorem carry_iff_table {x y c : Nat} (hx : x < 16) (hy : y < 16) (hc : c ≤ 1) :
    16 ≤ x + y + c ↔ x / 8 = 1 ∧ y / 8 = 1 ∨ (x / 8 = 1 ∨ y / 8 = 1) ∧ ¬(x + y + c) % 16 / 8 = 1 := by
  omega

theorem carry_iff_bit4 {a b c : Nat} (hc : c ≤ 1) :
    16 ≤ a % 16 + b % 16 + c ↔ (a / 16 + b / 16 + (a + b + c) % 256 / 16) % 2 = 1 := by
  omega

theorem borrow_iff_table {x y c : Nat} (hx : x < 16) (hy : y < 16) (hc : c ≤ 1) :
    x < y + c ↔
      ¬x / 8 = 1 ∧ (y / 8 = 1 ∨ (x + 32 - y - c) % 16 / 8 = 1) ∨ y / 8 = 1 ∧ (x + 32 - y - c) % 16 / 8 = 1 := by
  omega

theorem borrow_iff_bit4 {a b c : Nat} (hc : c ≤ 1) (hb : b < 256) :
    a % 16 < b % 16 + c ↔ (a / 16 + b / 16 + (a + 512 - b - c) % 256 / 16) % 2 = 1 := by
  omega

theorem add8_halfCarry (a b : Byte) (cin : Bool) :
    (add8 a b cin).h =
        [false, true, true, true, false, false, false, true].getD (halfCarryIndex a b (add8 a b cin).r) false ∧
      (add8 a b cin).h = (a ^^^ b ^^^ (add8 a b cin).r).getLsbD 4 := by
  have hc := bool_toNat_le cin
  have hh : (add8 a b cin).h = decide (16 ≤ a.toNat % 16 + b.toNat % 16 + cin.toNat) := addCarry_h 4 a b cin
  have hlow : (a.toNat + b.toNat + cin.toNat) % 256 % 16 = (a.toNat % 16 + b.toNat % 16 + cin.toNat) % 16 := by omega
  rw [hh, halfCarryIndex, addTable_eq, xor_xor_bit4, bit3_eq_decide, bit3_eq_decide, bit3_eq_decide, add8_toNat, hlow]
  constructor
  · have htable := carry_iff_table (Nat.mod_lt a.toNat (by decide)) (Nat.mod_lt b.toNat (by decide)) hc
    rw [Bool.eq_iff_iff]
    simp only [Bool.and_eq_true, Bool.or_eq_true, Bool.not_eq_true', decide_eq_true_eq, decide_eq_false_iff_not]
    exact htable
  · rw [decide_eq_decide]
    exact carry_iff_bit4 hc

theorem sub8_halfCarry (a b : Byte) (cin : Bool) :
    (sub8 a b cin).h =
        [false, false, true, false, true, false, true, true].getD (halfCarryIndex a b (sub8 a b cin).r) false ∧
      (sub8 a b cin).h = (a ^^^ b ^^^ (sub8 a b cin).r).getLsbD 4 := by
  have hc := bool_toNat_le cin
  have hb : b.toNat < 256 := b.isLt
  have hr : ((sub8 a b cin).r.toNat : Int) = ((a.toNat : Int) - b.toNat - cin.toNat) % 256 := sub8_toNat a b cin
  have hr : (sub8 a b cin).r.toNat = (a.toNat + 512 - b.toNat - cin.toNat) % 256 := by omega
  have hh : (sub8 a b cin).h = decide (a.toNat % 16 < b.toNat % 16 + cin.toNat) := subBorrow_h 4 a b cin
  have hlow : (a.toNat + 512 - b.toNat - cin.toNat) % 256 % 16 =
      (a.toNat % 16 + 32 - b.toNat % 16 - cin.toNat) % 16 := by omega
  rw [hh, halfCarryIndex, subTable_eq, xor_xor_bit4, bit3_eq_decide, bit3_eq_decide, bit3_eq_decide, hr, hlow]
  constructor
  · have htable := borrow_iff_table (Nat.mod_lt a.toNat (by decide)) (Nat.mod_lt b.toNat (by decide)) hc
    rw [Bool.eq_iff_iff]
    simp only [Bool.and_eq_true, Bool.or_eq_true, Bool.not_eq_true', decide_eq_true_eq, decide_eq_false_iff_not]
    exact htable
  · rw [decide_eq_decide]
    exact borrow_iff_bit4 hc hb

/-- Settles O18: the sum or difference of the low digits decides bit 3 and bit 4 of the result. -/
theorem halfCarryTablesAgree : Obligations.HalfCarryTablesAgree :=
  fun a b cin => ⟨add8_halfCarry a b cin, sub8_halfCarry a b cin⟩

end Sys2Proof.Machine
end

section
/-! DAA after ADC and SBC of packed decimal numbers (40_alu8.md R202, R204, R220). -/

namespace Sys2Proof.Machine

/-! ### The arithmetic of the digits -/

/-- The digits of a number below 100, one in each half of a byte. -/
def packedDecimal (n : Nat) : Nat := 16 * (n / 10) + n % 10

theorem packedDecimal_of_digits {n p q : Nat} (hq : q ≤ 9) (h : n = 10 * p + q) : packedDecimal n = 16 * p + q := by
  unfold packedDecimal
  omega

/-- The correction after an addition, with `t` the sum of the tens and `w` that of the ones and the carry. -/
theorem daa_add_digits {t w a diff : Nat} (ht : t ≤ 18) (hw : w ≤ 19) (ha : a = (16 * t + w) % 256)
    (hdiff : diff = (if 16 ≤ w ∨ 9 < a % 16 then 6 else 0) + if 256 ≤ 16 * t + w ∨ 0x99 < a then 0x60 else 0) :
    (a + diff) % 256 = packedDecimal ((10 * t + w) % 100) ∧
      ((256 ≤ 16 * t + w ∨ 0x99 < a) ↔ 100 ≤ 10 * t + w) := by
  have hlow : (16 ≤ w ∨ 9 < a % 16) ↔ 10 ≤ w := by omega
  have hhigh : (256 ≤ 16 * t + w ∨ 0x99 < a) ↔ 100 ≤ 10 * t + w := by omega
  rw [if_congr hlow rfl rfl, if_congr hhigh rfl rfl] at hdiff
  refine ⟨?_, hhigh⟩
  by_cases h1 : 10 ≤ w <;> by_cases h2 : 100 ≤ 10 * t + w
  · rw [packedDecimal_of_digits (p := t - 9) (q := w - 10) (by omega) (by omega), hdiff, if_pos h1, if_pos h2]
    omega
  · rw [packedDecimal_of_digits (p := t + 1) (q := w - 10) (by omega) (by omega), hdiff, if_pos h1, if_neg h2]
    omega
  · rw [packedDecimal_of_digits (p := t - 10) (q := w) (by omega) (by omega), hdiff, if_neg h1, if_pos h2]
    omega
  · rw [packedDecimal_of_digits (p := t) (q := w) (by omega) (by omega), hdiff, if_neg h1, if_neg h2]
    omega

/-- The correction after a subtraction: digits `p`, `q` less tens `r` and ones with borrow `v`. -/
theorem daa_sub_digits {p q r v a diff : Nat} (hp : p ≤ 9) (hq : q ≤ 9) (hr : r ≤ 9) (hv : v ≤ 10)
    (ha : a = (16 * p + q + 512 - 16 * r - v) % 256)
    (hdiff : diff = (if q < v ∨ 9 < a % 16 then 6 else 0) + if 16 * p + q < 16 * r + v ∨ 0x99 < a then 0x60 else 0) :
    (a + 256 - diff) % 256 = packedDecimal ((10 * p + q + 200 - 10 * r - v) % 100) ∧
      ((16 * p + q < 16 * r + v ∨ 0x99 < a) ↔ 10 * p + q < 10 * r + v) := by
  have hlow : (q < v ∨ 9 < a % 16) ↔ q < v := by omega
  have hhigh : (16 * p + q < 16 * r + v ∨ 0x99 < a) ↔ 10 * p + q < 10 * r + v := by omega
  rw [if_congr hlow rfl rfl, if_congr hhigh rfl rfl] at hdiff
  refine ⟨?_, hhigh⟩
  by_cases h1 : q < v <;> by_cases h2 : 10 * p + q < 10 * r + v
  · rw [packedDecimal_of_digits (p := p + 9 - r) (q := q + 10 - v) (by omega) (by omega), hdiff, if_pos h1, if_pos h2]
    omega
  · rw [packedDecimal_of_digits (p := p - 1 - r) (q := q + 10 - v) (by omega) (by omega), hdiff, if_pos h1, if_neg h2]
    omega
  · rw [packedDecimal_of_digits (p := p + 10 - r) (q := q - v) (by omega) (by omega), hdiff, if_neg h1, if_pos h2]
    omega
  · rw [packedDecimal_of_digits (p := p - r) (q := q - v) (by omega) (by omega), hdiff, if_neg h1, if_neg h2]
    omega

/-! ### The instructions -/

/-- The packed decimal byte of a number below 100. -/
def decimalByte (n : Nat) : Byte := BitVec.ofNat 8 (packedDecimal n)

theorem decimalByte_toNat {n : Nat} (h : n < 100) : (decimalByte n).toNat = packedDecimal n := by
  refine Nat.mod_eq_of_lt ?_
  unfold packedDecimal
  omega

theorem eq_decimalByte {v : Byte} {n : Nat} (hn : n < 100) (h : v.toNat = packedDecimal n) : v = decimalByte n :=
  BitVec.eq_of_toNat_eq (h.trans (decimalByte_toNat hn).symm)

/-- The correction DAA applies to `a` with H, C and N as given (R220). -/
theorem daa_result {t : State} {a : Nat} {h c n : Bool} (ha : t.a.toNat = a) (hh : flagH t.f = h) (hc : flagC t.f = c)
    (hn : flagN t.f = n) :
    ∃ u, exec .daa t = .next u ∧ flagC u.f = decide (c ∨ 0x99 < a) ∧
      u.a.toNat =
        let diff := (if h ∨ 9 < a % 16 then 6 else 0) + if c ∨ 0x99 < a then 0x60 else 0
        if n then (a + 256 - diff) % 256 else (a + diff) % 256 := by
  subst ha hh hc hn
  obtain ⟨-, u, hexec, -, hres, hsix, -⟩ := daaAdjustsA t
  refine ⟨u, hexec, ?_, hres⟩
  have hcarry := congrArg SixFlags.c hsix
  exact hcarry.trans (by simp [Bool.decide_or])

theorem carryNat_le (f : Byte) : carryNat f ≤ 1 := by
  rw [carryNat_eq_toNat]
  exact bool_toNat_le _

theorem adc_daa {s : State} {x y : Nat} (hx : x < 100) (hy : y < 100) (ha : s.a = decimalByte x) :
    ∃ t u, exec (.adcAN (decimalByte y)) s = .next t ∧ exec .daa t = .next u ∧
      u.a = decimalByte ((x + y + carryNat s.f) % 100) ∧
      flagC u.f = decide (100 ≤ x + y + carryNat s.f) := by
  have hcin := carryNat_le s.f
  obtain ⟨-, t, hexec, -, hsum, hsix, -⟩ := addAndAdcSumIntoA .adc (.imm (decimalByte y)) s (.inr rfl)
  have hh := congrArg SixFlags.h hsix
  have hc := congrArg SixFlags.c hsix
  have hn := congrArg SixFlags.n hsix
  change t.a.toNat = (s.a.toNat + (decimalByte y).toNat + carryNat s.f) % 256 at hsum
  change flagH t.f = decide (16 ≤ s.a.toNat % 16 + (decimalByte y).toNat % 16 + carryNat s.f) at hh
  change flagN t.f = false at hn
  change flagC t.f = decide (256 ≤ s.a.toNat + (decimalByte y).toNat + carryNat s.f) at hc
  obtain ⟨u, hdaa, hcarry, hres⟩ := daa_result rfl hh hc hn
  rw [hsum, ha, decimalByte_toNat hx, decimalByte_toNat hy] at hcarry hres
  have hlow : packedDecimal x % 16 + packedDecimal y % 16 + carryNat s.f = x % 10 + y % 10 + carryNat s.f := by
    unfold packedDecimal
    omega
  have htotal : packedDecimal x + packedDecimal y + carryNat s.f =
      16 * (x / 10 + y / 10) + (x % 10 + y % 10 + carryNat s.f) := by
    unfold packedDecimal
    omega
  have hnumber : x + y + carryNat s.f = 10 * (x / 10 + y / 10) + (x % 10 + y % 10 + carryNat s.f) := by omega
  simp only [hlow, htotal, decide_eq_true_eq, Bool.false_eq_true, if_false] at hcarry hres
  obtain ⟨hdigits, hdecimal⟩ := daa_add_digits (t := x / 10 + y / 10) (w := x % 10 + y % 10 + carryNat s.f)
    (by omega) (by omega) rfl rfl
  rw [hnumber]
  exact ⟨t, u, hexec, hdaa, eq_decimalByte (Nat.mod_lt _ (by decide)) (hres.trans hdigits),
    hcarry.trans (decide_eq_decide.mpr hdecimal)⟩

theorem sbc_daa {s : State} {x y : Nat} (hx : x < 100) (hy : y < 100) (ha : s.a = decimalByte x) :
    ∃ t u, exec (.sbcAN (decimalByte y)) s = .next t ∧ exec .daa t = .next u ∧
      u.a = decimalByte ((x + 200 - y - carryNat s.f) % 100) ∧
      flagC u.f = decide (x < y + carryNat s.f) := by
  have hcin := carryNat_le s.f
  obtain ⟨-, t, hexec, -, hdiff, hsix, -⟩ := subSbcAndCpSubtract .sbc (.imm (decimalByte y)) s (.inr (.inl rfl))
  have hh := congrArg SixFlags.h hsix
  have hc := congrArg SixFlags.c hsix
  have hn := congrArg SixFlags.n hsix
  change (t.a.toNat : Int) = ((s.a.toNat : Int) - (decimalByte y).toNat - carryNat s.f) % 256 at hdiff
  change flagH t.f = decide (s.a.toNat % 16 < (decimalByte y).toNat % 16 + carryNat s.f) at hh
  change flagN t.f = true at hn
  change flagC t.f = decide ((s.a.toNat : Int) - (decimalByte y).toNat - carryNat s.f < 0) at hc
  rw [ha, decimalByte_toNat hx, decimalByte_toNat hy] at hdiff hh hc
  have hlow : decide (packedDecimal x % 16 < packedDecimal y % 16 + carryNat s.f) =
      decide (x % 10 < y % 10 + carryNat s.f) := by
    rw [decide_eq_decide]
    unfold packedDecimal
    omega
  have hborrow : decide ((packedDecimal x : Int) - packedDecimal y - carryNat s.f < 0) =
      decide (16 * (x / 10) + x % 10 < 16 * (y / 10) + (y % 10 + carryNat s.f)) := by
    rw [decide_eq_decide]
    unfold packedDecimal
    omega
  have htotal : t.a.toNat = (16 * (x / 10) + x % 10 + 512 - 16 * (y / 10) - (y % 10 + carryNat s.f)) % 256 := by
    unfold packedDecimal at hdiff
    omega
  have hnumber : x + 200 - y - carryNat s.f =
      10 * (x / 10) + x % 10 + 200 - 10 * (y / 10) - (y % 10 + carryNat s.f) := by omega
  have hless : x < y + carryNat s.f ↔ 10 * (x / 10) + x % 10 < 10 * (y / 10) + (y % 10 + carryNat s.f) := by omega
  obtain ⟨u, hdaa, hcarry, hres⟩ := daa_result htotal (hh.trans hlow) (hc.trans hborrow) hn
  simp only [decide_eq_true_eq, if_true] at hcarry hres
  obtain ⟨hdigits, hdecimal⟩ := daa_sub_digits (p := x / 10) (q := x % 10) (r := y / 10) (v := y % 10 + carryNat s.f)
    (by omega) (by omega) (by omega) (by omega) rfl rfl
  rw [hnumber]
  exact ⟨t, u, hexec, hdaa, eq_decimalByte (Nat.mod_lt _ (by decide)) (hres.trans hdigits),
    hcarry.trans (decide_eq_decide.mpr (hdecimal.trans hless.symm))⟩

/-- Settles O31: the correction brings each digit that passed 9, or borrowed, back to a decimal digit. -/
theorem daaMakesDecimalArithmetic : Obligations.DaaMakesDecimalArithmetic :=
  fun _ _ _ hx hy ha => ⟨adc_daa hx hy ha, sbc_daa hx hy ha⟩

end Sys2Proof.Machine
end

section
/-! LDIR over a whole block (44_exchange_block.md R341). -/

namespace Sys2Proof.Machine

/-! ### The state after some executions -/

/-- The state after `k` executions of LDIR in a full memory. -/
def State.ldirRun (s : State) (k : Nat) : State := (fun t => t.transferNext true true)^[k] s

theorem ldirRun_succ (s : State) (k : Nat) : s.ldirRun (k + 1) = (s.ldirRun k).transferNext true true :=
  Function.iterate_succ_apply' ..

theorem ldirRun_succ' (s : State) (k : Nat) : s.ldirRun (k + 1) = (s.transferNext true true).ldirRun k :=
  Function.iterate_succ_apply ..

theorem exec_ldir {s : State} (hsize : s.mem.size = 65536) : exec .ldir s = .next (s.transferNext true true) := by
  have h : Answers (exec .ldir s) s [(s.hl, .read), (s.de, .write)] _ := transferInstr_answers true true s
  have hhl : ¬65536 ≤ s.hl.toNat := Nat.not_le.mpr s.hl.isLt
  have hde : ¬65536 ≤ s.de.toNat := Nat.not_le.mpr s.de.isLt
  rwa [answers_cons, answers_cons, hsize, if_neg hhl, if_neg hde] at h

theorem execTimes_ldir {s : State} (hsize : s.mem.size = 65536) (k : Nat) :
    execTimes .ldir k s = .next (s.ldirRun k) := by
  induction k generalizing s with
  | zero => rfl
  | succ k ih =>
    rw [execTimes, exec_ldir hsize, ldirRun_succ']
    exact ih hsize

theorem ldirRun_size (s : State) (k : Nat) : (s.ldirRun k).mem.size = s.mem.size := by
  induction k with
  | zero => rfl
  | succ k ih => rw [ldirRun_succ, transferNext_mem, Memory.size_set, ih]

/-! ### The registers -/

theorem add_ofNat_succ (v : Word) (k : Nat) : v + BitVec.ofNat 16 k + 1 = v + BitVec.ofNat 16 (k + 1) := by
  rw [BitVec.add_assoc, BitVec.ofNat_add]
  rfl

theorem ldirRun_hl (s : State) (k : Nat) : (s.ldirRun k).hl = s.hl + BitVec.ofNat 16 k := by
  induction k with
  | zero => exact (BitVec.add_zero s.hl).symm
  | succ k ih => rw [ldirRun_succ, transferNext_hl, ih, ← add_one_eq_nextWord, add_ofNat_succ]

theorem ldirRun_de (s : State) (k : Nat) : (s.ldirRun k).de = s.de + BitVec.ofNat 16 k := by
  induction k with
  | zero => exact (BitVec.add_zero s.de).symm
  | succ k ih => rw [ldirRun_succ, transferNext_de, ih, ← add_one_eq_nextWord, add_ofNat_succ]

/-- The number of bytes LDIR copies: 65536 for BC = 0. -/
def State.blockLength (s : State) : Nat := if s.bc.toNat = 0 then 65536 else s.bc.toNat

theorem blockLength_pos (s : State) : 1 ≤ s.blockLength := by
  unfold State.blockLength
  split <;> omega

theorem blockLength_le (s : State) : s.blockLength ≤ 65536 := by
  have hbc : s.bc.toNat < 65536 := s.bc.isLt
  unfold State.blockLength
  split <;> omega

theorem bc_toNat (s : State) : s.bc.toNat = s.blockLength % 65536 := by
  have hbc : s.bc.toNat < 65536 := s.bc.isLt
  unfold State.blockLength
  split <;> omega

theorem ldirRun_bc {s : State} {k : Nat} (hk : k ≤ s.blockLength) :
    (s.ldirRun k).bc.toNat = (s.blockLength - k) % 65536 := by
  induction k with
  | zero => exact bc_toNat s
  | succ k ih =>
    rw [ldirRun_succ, transferNext_bc, nextWord_toNat, ih (by omega)]
    have hle := blockLength_le s
    simp only [Bool.false_eq_true, if_false]
    omega

/-- BC is 1 before the last execution and before no other. -/
theorem ldirRun_bc_ne_one {s : State} {k : Nat} (hk : k < s.blockLength) :
    (s.ldirRun k).bc.toNat ≠ 1 ↔ k + 1 < s.blockLength := by
  have hle := blockLength_le s
  rw [ldirRun_bc hk.le]
  omega

theorem ldirRun_pc {s : State} {k : Nat} (hk : k < s.blockLength) : (s.ldirRun k).pc = s.pc := by
  induction k with
  | zero => rfl
  | succ k ih =>
    have hmore := (ldirRun_bc_ne_one (Nat.lt_of_succ_lt hk)).mpr hk
    rw [ldirRun_succ, transferNext_pc, ih (Nat.lt_of_succ_lt hk), decide_eq_true hmore]
    rfl

/-! ### Memory -/

theorem ldirRun_mem_succ (s : State) (k : Nat) :
    (s.ldirRun (k + 1)).mem = (s.ldirRun k).mem.set (s.de + BitVec.ofNat 16 k).toNat
      ((s.ldirRun k).mem.get (s.hl + BitVec.ofNat 16 k).toNat) := by
  rw [ldirRun_succ, transferNext_mem, ldirRun_hl, ldirRun_de]

theorem ldirRun_get_of_ne {s : State} {m : Nat} {x : Word} (h : ∀ k < m, s.de + BitVec.ofNat 16 k ≠ x) :
    (s.ldirRun m).mem.get x.toNat = s.mem.get x.toNat := by
  induction m with
  | zero => rfl
  | succ m ih =>
    have hne : x.toNat ≠ (s.de + BitVec.ofNat 16 m).toNat := fun he =>
      h m (Nat.lt_succ_self m) (BitVec.eq_of_toNat_eq he.symm)
    rw [ldirRun_mem_succ, Memory.get_set, if_neg hne]
    exact ih fun k hk => h k (Nat.lt_succ_of_lt hk)

theorem dest_ne {v : Word} {j k : Nat} (hj : j < 65536) (hk : k < 65536) (h : j ≠ k) :
    (v + BitVec.ofNat 16 j).toNat ≠ (v + BitVec.ofNat 16 k).toNat := by
  simp only [BitVec.toNat_add, BitVec.toNat_ofNat]
  omega

/-- When no byte of the source is overwritten, the bytes written so far are those of the source. -/
theorem ldirRun_get_dest {s : State} {m : Nat} (hm : m ≤ 65536)
    (h : ∀ j < m, ∀ k < m, s.hl + BitVec.ofNat 16 j ≠ s.de + BitVec.ofNat 16 k) {k : Nat} (hk : k < m) :
    (s.ldirRun m).mem.get (s.de + BitVec.ofNat 16 k).toNat = s.mem.get (s.hl + BitVec.ofNat 16 k).toNat := by
  induction m with
  | zero => cases hk
  | succ m ih =>
    rw [ldirRun_mem_succ, Memory.get_set]
    by_cases hlast : k = m
    · rw [hlast, if_pos rfl]
      exact ldirRun_get_of_ne fun j hj => (h m (Nat.lt_succ_self m) j (Nat.lt_succ_of_lt hj)).symm
    · rw [if_neg (dest_ne (by omega) (by omega) hlast)]
      exact ih (by omega) (fun i hi j hj => h i (by omega) j (by omega)) (by omega)

/-! ### The end of the block -/

theorem flagPV_transferEffect (f : Byte) (bc : Word) :
    flagPV (setFlags f (transferEffect (nextWord false bc))) = decide (bc.toNat ≠ 1) := by
  rw [flagPV_setFlags, transferEffect, Option.getD_some, nextWord_false_bne_zero]

theorem pcPlus_congr {s t : State} (hpc : t.pc = s.pc) (hsize : t.mem.size = s.mem.size) (k : Nat) :
    t.pcPlus k = s.pcPlus k := by
  rw [State.pcPlus, State.pcPlus, State.wrap, State.wrap, hpc, hsize]

theorem ldirRun_end (s : State) :
    (s.ldirRun s.blockLength).pc = s.pcPlus 2 ∧ (s.ldirRun s.blockLength).bc = 0 ∧
      flagPV (s.ldirRun s.blockLength).f = false := by
  obtain ⟨last, hlast⟩ : ∃ last, s.blockLength = last + 1 :=
    Nat.exists_eq_succ_of_ne_zero (Nat.ne_of_gt (blockLength_pos s))
  have hlt : last < s.blockLength := by omega
  have hone : ¬(s.ldirRun last).bc.toNat ≠ 1 := fun h => by
    have := (ldirRun_bc_ne_one hlt).mp h
    omega
  refine ⟨?_, ?_, ?_⟩
  · rw [hlast, ldirRun_succ, transferNext_pc, decide_eq_false hone]
    exact pcPlus_congr (ldirRun_pc hlt) (ldirRun_size s last) 2
  · refine BitVec.eq_of_toNat_eq ?_
    rw [ldirRun_bc le_rfl, Nat.sub_self]
    rfl
  · rw [hlast, ldirRun_succ, transferNext_f, flagPV_transferEffect, decide_eq_false hone]

/-- Settles O45: by induction on the number of executions, each one a transfer of one byte. -/
theorem ldirCopiesTheBlock : Obligations.LdirCopiesTheBlock := by
  intro s hsize
  obtain ⟨hpc, hbc, hpv⟩ := ldirRun_end s
  exact ⟨fun k hk => ⟨_, execTimes_ldir hsize k, ldirRun_pc hk⟩, _, execTimes_ldir hsize s.blockLength, hpc, hbc, hpv,
    ldirRun_hl s _, ldirRun_de s _, fun x hx => ldirRun_get_of_ne hx,
    fun hdisjoint k hk => ldirRun_get_dest (blockLength_le s) hdisjoint hk⟩

end Sys2Proof.Machine
end
